-- ==== Sys2Proof/Word.lean ====
section
/-! DEFINITION. The word types of the machine (spec 00 R14, R16): the CPU data width is 8 bits, the CPU
address and PC width 16 bits. Bit 0 is the least significant bit. -/

namespace Sys2Proof

/-- A byte: the CPU data width (R14). -/
abbrev Byte := BitVec 8

/-- A CPU address or the program counter (R14). -/
abbrev Word := BitVec 16

/-- An address of the PPU's internal space, masked to 14 bits (R14, R250). -/
abbrev PpuAddr := BitVec 14

/-- A loopy register: v or t (R14, R135). -/
abbrev Loopy := BitVec 15

end Sys2Proof
end

