-- ==== Sys2Proof/Machine/Bits.lean ====
section
/-! DEFINITION. Bit fields, sign extension and byte order (spec 00 R16, R18; 20 R220). -/

namespace Sys2Proof.Machine

/-- `(hi << 8) | lo` (R16): a word from its low and its high byte. -/
def wordOf (lo hi : Byte) : Word := hi ++ lo

/-- The low byte of a word. -/
def loByte (a : Word) : Byte := a.extractLsb' 0 8

/-- The high byte of a word. -/
def hiByte (a : Word) : Byte := a.extractLsb' 8 8

/-- `sext_8(v)` at 16 bits (R16). -/
def sext8 (v : Byte) : Word := v.signExtend 16

/-- A zero-page address: the byte zero-extended (R302). -/
def zpWord (v : Byte) : Word := v.setWidth 16

/-- Bit `i` of a byte. -/
def bit (v : Byte) (i : Nat) : Bool := v.getLsbD i

/-- 1 for true and 0 for false, as a byte. -/
def bitByte (b : Bool) : Byte := if b then 1 else 0

/-- A byte with its bits in the opposite order (R823, horizontal flip). -/
def reverseByte (v : Byte) : Byte := v.reverse

/-- Whether two addresses lie in different 256-byte pages (R411, R412). -/
def pageDiffers (a b : Word) : Bool := a &&& 0xFF00 != b &&& 0xFF00

end Sys2Proof.Machine
end

