-- ==== Sys2Proof/Syntax.lean ====
section
/-! DEFINITION. The instructions: one constructor per row of spec/opcode_table.json (spec 30 R303), in the order of
the opcode byte, those with operand bytes first. An operand byte is a `Byte`, a two-byte operand the `Word` it assembles to, low byte first (R302). A
branch keeps its offset byte as encoded (R426). The twenty opcodes the spec refuses (R310) are constructors too, named
by their byte. -/

namespace Sys2Proof

inductive Instr where
  /-- $01: `ORA ($zz,X)`. -/
  | oraIndX (b : Byte)
  /-- $03: `SLO ($zz,X)` (undocumented). -/
  | sloIndX (b : Byte)
  /-- $04: `NOP $zz` (undocumented). -/
  | nopZp04 (b : Byte)
  /-- $05: `ORA $zz`. -/
  | oraZp (b : Byte)
  /-- $06: `ASL $zz`. -/
  | aslZp (b : Byte)
  /-- $07: `SLO $zz` (undocumented). -/
  | sloZp (b : Byte)
  /-- $09: `ORA #$ii`. -/
  | oraImm (b : Byte)
  /-- $0B: `ANC #$ii` (undocumented). -/
  | ancImm0B (b : Byte)
  /-- $0C: `NOP $hhll` (undocumented). -/
  | nopAbs0C (a : Word)
  /-- $0D: `ORA $hhll`. -/
  | oraAbs (a : Word)
  /-- $0E: `ASL $hhll`. -/
  | aslAbs (a : Word)
  /-- $0F: `SLO $hhll` (undocumented). -/
  | sloAbs (a : Word)
  /-- $10: `BPL $target`. -/
  | bpl (b : Byte)
  /-- $11: `ORA ($zz),Y`. -/
  | oraIndY (b : Byte)
  /-- $13: `SLO ($zz),Y` (undocumented). -/
  | sloIndY (b : Byte)
  /-- $14: `NOP $zz,X` (undocumented). -/
  | nopZpX14 (b : Byte)
  /-- $15: `ORA $zz,X`. -/
  | oraZpX (b : Byte)
  /-- $16: `ASL $zz,X`. -/
  | aslZpX (b : Byte)
  /-- $17: `SLO $zz,X` (undocumented). -/
  | sloZpX (b : Byte)
  /-- $19: `ORA $hhll,Y`. -/
  | oraAbsY (a : Word)
  /-- $1B: `SLO $hhll,Y` (undocumented). -/
  | sloAbsY (a : Word)
  /-- $1C: `NOP $hhll,X` (undocumented). -/
  | nopAbsX1C (a : Word)
  /-- $1D: `ORA $hhll,X`. -/
  | oraAbsX (a : Word)
  /-- $1E: `ASL $hhll,X`. -/
  | aslAbsX (a : Word)
  /-- $1F: `SLO $hhll,X` (undocumented). -/
  | sloAbsX (a : Word)
  /-- $20: `JSR $hhll`. -/
  | jsrAbs (a : Word)
  /-- $21: `AND ($zz,X)`. -/
  | andIndX (b : Byte)
  /-- $23: `RLA ($zz,X)` (undocumented). -/
  | rlaIndX (b : Byte)
  /-- $24: `BIT $zz`. -/
  | bitZp (b : Byte)
  /-- $25: `AND $zz`. -/
  | andZp (b : Byte)
  /-- $26: `ROL $zz`. -/
  | rolZp (b : Byte)
  /-- $27: `RLA $zz` (undocumented). -/
  | rlaZp (b : Byte)
  /-- $29: `AND #$ii`. -/
  | andImm (b : Byte)
  /-- $2B: `ANC #$ii` (undocumented). -/
  | ancImm2B (b : Byte)
  /-- $2C: `BIT $hhll`. -/
  | bitAbs (a : Word)
  /-- $2D: `AND $hhll`. -/
  | andAbs (a : Word)
  /-- $2E: `ROL $hhll`. -/
  | rolAbs (a : Word)
  /-- $2F: `RLA $hhll` (undocumented). -/
  | rlaAbs (a : Word)
  /-- $30: `BMI $target`. -/
  | bmi (b : Byte)
  /-- $31: `AND ($zz),Y`. -/
  | andIndY (b : Byte)
  /-- $33: `RLA ($zz),Y` (undocumented). -/
  | rlaIndY (b : Byte)
  /-- $34: `NOP $zz,X` (undocumented). -/
  | nopZpX34 (b : Byte)
  /-- $35: `AND $zz,X`. -/
  | andZpX (b : Byte)
  /-- $36: `ROL $zz,X`. -/
  | rolZpX (b : Byte)
  /-- $37: `RLA $zz,X` (undocumented). -/
  | rlaZpX (b : Byte)
  /-- $39: `AND $hhll,Y`. -/
  | andAbsY (a : Word)
  /-- $3B: `RLA $hhll,Y` (undocumented). -/
  | rlaAbsY (a : Word)
  /-- $3C: `NOP $hhll,X` (undocumented). -/
  | nopAbsX3C (a : Word)
  /-- $3D: `AND $hhll,X`. -/
  | andAbsX (a : Word)
  /-- $3E: `ROL $hhll,X`. -/
  | rolAbsX (a : Word)
  /-- $3F: `RLA $hhll,X` (undocumented). -/
  | rlaAbsX (a : Word)
  /-- $41: `EOR ($zz,X)`. -/
  | eorIndX (b : Byte)
  /-- $43: `SRE ($zz,X)` (undocumented). -/
  | sreIndX (b : Byte)
  /-- $44: `NOP $zz` (undocumented). -/
  | nopZp44 (b : Byte)
  /-- $45: `EOR $zz`. -/
  | eorZp (b : Byte)
  /-- $46: `LSR $zz`. -/
  | lsrZp (b : Byte)
  /-- $47: `SRE $zz` (undocumented). -/
  | sreZp (b : Byte)
  /-- $49: `EOR #$ii`. -/
  | eorImm (b : Byte)
  /-- $4B: `ALR #$ii` (undocumented). -/
  | alrImm (b : Byte)
  /-- $4C: `JMP $hhll`. -/
  | jmpAbs (a : Word)
  /-- $4D: `EOR $hhll`. -/
  | eorAbs (a : Word)
  /-- $4E: `LSR $hhll`. -/
  | lsrAbs (a : Word)
  /-- $4F: `SRE $hhll` (undocumented). -/
  | sreAbs (a : Word)
  /-- $50: `BVC $target`. -/
  | bvc (b : Byte)
  /-- $51: `EOR ($zz),Y`. -/
  | eorIndY (b : Byte)
  /-- $53: `SRE ($zz),Y` (undocumented). -/
  | sreIndY (b : Byte)
  /-- $54: `NOP $zz,X` (undocumented). -/
  | nopZpX54 (b : Byte)
  /-- $55: `EOR $zz,X`. -/
  | eorZpX (b : Byte)
  /-- $56: `LSR $zz,X`. -/
  | lsrZpX (b : Byte)
  /-- $57: `SRE $zz,X` (undocumented). -/
  | sreZpX (b : Byte)
  /-- $59: `EOR $hhll,Y`. -/
  | eorAbsY (a : Word)
  /-- $5B: `SRE $hhll,Y` (undocumented). -/
  | sreAbsY (a : Word)
  /-- $5C: `NOP $hhll,X` (undocumented). -/
  | nopAbsX5C (a : Word)
  /-- $5D: `EOR $hhll,X`. -/
  | eorAbsX (a : Word)
  /-- $5E: `LSR $hhll,X`. -/
  | lsrAbsX (a : Word)
  /-- $5F: `SRE $hhll,X` (undocumented). -/
  | sreAbsX (a : Word)
  /-- $61: `ADC ($zz,X)`. -/
  | adcIndX (b : Byte)
  /-- $63: `RRA ($zz,X)` (undocumented). -/
  | rraIndX (b : Byte)
  /-- $64: `NOP $zz` (undocumented). -/
  | nopZp64 (b : Byte)
  /-- $65: `ADC $zz`. -/
  | adcZp (b : Byte)
  /-- $66: `ROR $zz`. -/
  | rorZp (b : Byte)
  /-- $67: `RRA $zz` (undocumented). -/
  | rraZp (b : Byte)
  /-- $69: `ADC #$ii`. -/
  | adcImm (b : Byte)
  /-- $6B: `ARR #$ii` (undocumented). -/
  | arrImm (b : Byte)
  /-- $6C: `JMP ($hhll)`. -/
  | jmpInd (a : Word)
  /-- $6D: `ADC $hhll`. -/
  | adcAbs (a : Word)
  /-- $6E: `ROR $hhll`. -/
  | rorAbs (a : Word)
  /-- $6F: `RRA $hhll` (undocumented). -/
  | rraAbs (a : Word)
  /-- $70: `BVS $target`. -/
  | bvs (b : Byte)
  /-- $71: `ADC ($zz),Y`. -/
  | adcIndY (b : Byte)
  /-- $73: `RRA ($zz),Y` (undocumented). -/
  | rraIndY (b : Byte)
  /-- $74: `NOP $zz,X` (undocumented). -/
  | nopZpX74 (b : Byte)
  /-- $75: `ADC $zz,X`. -/
  | adcZpX (b : Byte)
  /-- $76: `ROR $zz,X`. -/
  | rorZpX (b : Byte)
  /-- $77: `RRA $zz,X` (undocumented). -/
  | rraZpX (b : Byte)
  /-- $79: `ADC $hhll,Y`. -/
  | adcAbsY (a : Word)
  /-- $7B: `RRA $hhll,Y` (undocumented). -/
  | rraAbsY (a : Word)
  /-- $7C: `NOP $hhll,X` (undocumented). -/
  | nopAbsX7C (a : Word)
  /-- $7D: `ADC $hhll,X`. -/
  | adcAbsX (a : Word)
  /-- $7E: `ROR $hhll,X`. -/
  | rorAbsX (a : Word)
  /-- $7F: `RRA $hhll,X` (undocumented). -/
  | rraAbsX (a : Word)
  /-- $80: `NOP #$ii` (undocumented). -/
  | nopImm80 (b : Byte)
  /-- $81: `STA ($zz,X)`. -/
  | staIndX (b : Byte)
  /-- $82: `NOP #$ii` (undocumented). -/
  | nopImm82 (b : Byte)
  /-- $83: `SAX ($zz,X)` (undocumented). -/
  | saxIndX (b : Byte)
  /-- $84: `STY $zz`. -/
  | styZp (b : Byte)
  /-- $85: `STA $zz`. -/
  | staZp (b : Byte)
  /-- $86: `STX $zz`. -/
  | stxZp (b : Byte)
  /-- $87: `SAX $zz` (undocumented). -/
  | saxZp (b : Byte)
  /-- $89: `NOP #$ii` (undocumented). -/
  | nopImm89 (b : Byte)
  /-- $8C: `STY $hhll`. -/
  | styAbs (a : Word)
  /-- $8D: `STA $hhll`. -/
  | staAbs (a : Word)
  /-- $8E: `STX $hhll`. -/
  | stxAbs (a : Word)
  /-- $8F: `SAX $hhll` (undocumented). -/
  | saxAbs (a : Word)
  /-- $90: `BCC $target`. -/
  | bcc (b : Byte)
  /-- $91: `STA ($zz),Y`. -/
  | staIndY (b : Byte)
  /-- $94: `STY $zz,X`. -/
  | styZpX (b : Byte)
  /-- $95: `STA $zz,X`. -/
  | staZpX (b : Byte)
  /-- $96: `STX $zz,Y`. -/
  | stxZpY (b : Byte)
  /-- $97: `SAX $zz,Y` (undocumented). -/
  | saxZpY (b : Byte)
  /-- $99: `STA $hhll,Y`. -/
  | staAbsY (a : Word)
  /-- $9D: `STA $hhll,X`. -/
  | staAbsX (a : Word)
  /-- $A0: `LDY #$ii`. -/
  | ldyImm (b : Byte)
  /-- $A1: `LDA ($zz,X)`. -/
  | ldaIndX (b : Byte)
  /-- $A2: `LDX #$ii`. -/
  | ldxImm (b : Byte)
  /-- $A3: `LAX ($zz,X)` (undocumented). -/
  | laxIndX (b : Byte)
  /-- $A4: `LDY $zz`. -/
  | ldyZp (b : Byte)
  /-- $A5: `LDA $zz`. -/
  | ldaZp (b : Byte)
  /-- $A6: `LDX $zz`. -/
  | ldxZp (b : Byte)
  /-- $A7: `LAX $zz` (undocumented). -/
  | laxZp (b : Byte)
  /-- $A9: `LDA #$ii`. -/
  | ldaImm (b : Byte)
  /-- $AC: `LDY $hhll`. -/
  | ldyAbs (a : Word)
  /-- $AD: `LDA $hhll`. -/
  | ldaAbs (a : Word)
  /-- $AE: `LDX $hhll`. -/
  | ldxAbs (a : Word)
  /-- $AF: `LAX $hhll` (undocumented). -/
  | laxAbs (a : Word)
  /-- $B0: `BCS $target`. -/
  | bcs (b : Byte)
  /-- $B1: `LDA ($zz),Y`. -/
  | ldaIndY (b : Byte)
  /-- $B3: `LAX ($zz),Y` (undocumented). -/
  | laxIndY (b : Byte)
  /-- $B4: `LDY $zz,X`. -/
  | ldyZpX (b : Byte)
  /-- $B5: `LDA $zz,X`. -/
  | ldaZpX (b : Byte)
  /-- $B6: `LDX $zz,Y`. -/
  | ldxZpY (b : Byte)
  /-- $B7: `LAX $zz,Y` (undocumented). -/
  | laxZpY (b : Byte)
  /-- $B9: `LDA $hhll,Y`. -/
  | ldaAbsY (a : Word)
  /-- $BC: `LDY $hhll,X`. -/
  | ldyAbsX (a : Word)
  /-- $BD: `LDA $hhll,X`. -/
  | ldaAbsX (a : Word)
  /-- $BE: `LDX $hhll,Y`. -/
  | ldxAbsY (a : Word)
  /-- $BF: `LAX $hhll,Y` (undocumented). -/
  | laxAbsY (a : Word)
  /-- $C0: `CPY #$ii`. -/
  | cpyImm (b : Byte)
  /-- $C1: `CMP ($zz,X)`. -/
  | cmpIndX (b : Byte)
  /-- $C2: `NOP #$ii` (undocumented). -/
  | nopImmC2 (b : Byte)
  /-- $C3: `DCP ($zz,X)` (undocumented). -/
  | dcpIndX (b : Byte)
  /-- $C4: `CPY $zz`. -/
  | cpyZp (b : Byte)
  /-- $C5: `CMP $zz`. -/
  | cmpZp (b : Byte)
  /-- $C6: `DEC $zz`. -/
  | decZp (b : Byte)
  /-- $C7: `DCP $zz` (undocumented). -/
  | dcpZp (b : Byte)
  /-- $C9: `CMP #$ii`. -/
  | cmpImm (b : Byte)
  /-- $CB: `AXS #$ii` (undocumented). -/
  | axsImm (b : Byte)
  /-- $CC: `CPY $hhll`. -/
  | cpyAbs (a : Word)
  /-- $CD: `CMP $hhll`. -/
  | cmpAbs (a : Word)
  /-- $CE: `DEC $hhll`. -/
  | decAbs (a : Word)
  /-- $CF: `DCP $hhll` (undocumented). -/
  | dcpAbs (a : Word)
  /-- $D0: `BNE $target`. -/
  | bne (b : Byte)
  /-- $D1: `CMP ($zz),Y`. -/
  | cmpIndY (b : Byte)
  /-- $D3: `DCP ($zz),Y` (undocumented). -/
  | dcpIndY (b : Byte)
  /-- $D4: `NOP $zz,X` (undocumented). -/
  | nopZpXD4 (b : Byte)
  /-- $D5: `CMP $zz,X`. -/
  | cmpZpX (b : Byte)
  /-- $D6: `DEC $zz,X`. -/
  | decZpX (b : Byte)
  /-- $D7: `DCP $zz,X` (undocumented). -/
  | dcpZpX (b : Byte)
  /-- $D9: `CMP $hhll,Y`. -/
  | cmpAbsY (a : Word)
  /-- $DB: `DCP $hhll,Y` (undocumented). -/
  | dcpAbsY (a : Word)
  /-- $DC: `NOP $hhll,X` (undocumented). -/
  | nopAbsXDC (a : Word)
  /-- $DD: `CMP $hhll,X`. -/
  | cmpAbsX (a : Word)
  /-- $DE: `DEC $hhll,X`. -/
  | decAbsX (a : Word)
  /-- $DF: `DCP $hhll,X` (undocumented). -/
  | dcpAbsX (a : Word)
  /-- $E0: `CPX #$ii`. -/
  | cpxImm (b : Byte)
  /-- $E1: `SBC ($zz,X)`. -/
  | sbcIndX (b : Byte)
  /-- $E2: `NOP #$ii` (undocumented). -/
  | nopImmE2 (b : Byte)
  /-- $E3: `ISB ($zz,X)` (undocumented). -/
  | isbIndX (b : Byte)
  /-- $E4: `CPX $zz`. -/
  | cpxZp (b : Byte)
  /-- $E5: `SBC $zz`. -/
  | sbcZp (b : Byte)
  /-- $E6: `INC $zz`. -/
  | incZp (b : Byte)
  /-- $E7: `ISB $zz` (undocumented). -/
  | isbZp (b : Byte)
  /-- $E9: `SBC #$ii`. -/
  | sbcImm (b : Byte)
  /-- $EB: `SBC #$ii` (undocumented). -/
  | sbcImmEB (b : Byte)
  /-- $EC: `CPX $hhll`. -/
  | cpxAbs (a : Word)
  /-- $ED: `SBC $hhll`. -/
  | sbcAbs (a : Word)
  /-- $EE: `INC $hhll`. -/
  | incAbs (a : Word)
  /-- $EF: `ISB $hhll` (undocumented). -/
  | isbAbs (a : Word)
  /-- $F0: `BEQ $target`. -/
  | beq (b : Byte)
  /-- $F1: `SBC ($zz),Y`. -/
  | sbcIndY (b : Byte)
  /-- $F3: `ISB ($zz),Y` (undocumented). -/
  | isbIndY (b : Byte)
  /-- $F4: `NOP $zz,X` (undocumented). -/
  | nopZpXF4 (b : Byte)
  /-- $F5: `SBC $zz,X`. -/
  | sbcZpX (b : Byte)
  /-- $F6: `INC $zz,X`. -/
  | incZpX (b : Byte)
  /-- $F7: `ISB $zz,X` (undocumented). -/
  | isbZpX (b : Byte)
  /-- $F9: `SBC $hhll,Y`. -/
  | sbcAbsY (a : Word)
  /-- $FB: `ISB $hhll,Y` (undocumented). -/
  | isbAbsY (a : Word)
  /-- $FC: `NOP $hhll,X` (undocumented). -/
  | nopAbsXFC (a : Word)
  /-- $FD: `SBC $hhll,X`. -/
  | sbcAbsX (a : Word)
  /-- $FE: `INC $hhll,X`. -/
  | incAbsX (a : Word)
  /-- $FF: `ISB $hhll,X` (undocumented). -/
  | isbAbsX (a : Word)
  /-- $00: `BRK`. -/
  | brk
  /-- $02: `refused`. -/
  | jam02
  /-- $08: `PHP`. -/
  | php
  /-- $0A: `ASL A`. -/
  | aslAcc
  /-- $12: `refused`. -/
  | jam12
  /-- $18: `CLC`. -/
  | clc
  /-- $1A: `NOP` (undocumented). -/
  | nopImp1A
  /-- $22: `refused`. -/
  | jam22
  /-- $28: `PLP`. -/
  | plp
  /-- $2A: `ROL A`. -/
  | rolAcc
  /-- $32: `refused`. -/
  | jam32
  /-- $38: `SEC`. -/
  | sec
  /-- $3A: `NOP` (undocumented). -/
  | nopImp3A
  /-- $40: `RTI`. -/
  | rti
  /-- $42: `refused`. -/
  | jam42
  /-- $48: `PHA`. -/
  | pha
  /-- $4A: `LSR A`. -/
  | lsrAcc
  /-- $52: `refused`. -/
  | jam52
  /-- $58: `CLI`. -/
  | cli
  /-- $5A: `NOP` (undocumented). -/
  | nopImp5A
  /-- $60: `RTS`. -/
  | rts
  /-- $62: `refused`. -/
  | jam62
  /-- $68: `PLA`. -/
  | pla
  /-- $6A: `ROR A`. -/
  | rorAcc
  /-- $72: `refused`. -/
  | jam72
  /-- $78: `SEI`. -/
  | sei
  /-- $7A: `NOP` (undocumented). -/
  | nopImp7A
  /-- $88: `DEY`. -/
  | dey
  /-- $8A: `TXA`. -/
  | txa
  /-- $8B: `refused`. -/
  | xaa8B
  /-- $92: `refused`. -/
  | jam92
  /-- $93: `refused`. -/
  | sha93
  /-- $98: `TYA`. -/
  | tya
  /-- $9A: `TXS`. -/
  | txs
  /-- $9B: `refused`. -/
  | tas9B
  /-- $9C: `refused`. -/
  | shy9C
  /-- $9E: `refused`. -/
  | shx9E
  /-- $9F: `refused`. -/
  | sha9F
  /-- $A8: `TAY`. -/
  | tay
  /-- $AA: `TAX`. -/
  | tax
  /-- $AB: `refused`. -/
  | lxaAB
  /-- $B2: `refused`. -/
  | jamB2
  /-- $B8: `CLV`. -/
  | clv
  /-- $BA: `TSX`. -/
  | tsx
  /-- $BB: `refused`. -/
  | lasBB
  /-- $C8: `INY`. -/
  | iny
  /-- $CA: `DEX`. -/
  | dex
  /-- $D2: `refused`. -/
  | jamD2
  /-- $D8: `CLD`. -/
  | cld
  /-- $DA: `NOP` (undocumented). -/
  | nopImpDA
  /-- $E8: `INX`. -/
  | inx
  /-- $EA: `NOP`. -/
  | nop
  /-- $F2: `refused`. -/
  | jamF2
  /-- $F8: `SED`. -/
  | sed
  /-- $FA: `NOP` (undocumented). -/
  | nopImpFA
  deriving DecidableEq, Repr

end Sys2Proof
end

