-- ==== Sys2Proof/Decode.lean ====
section
/-! DEFINITION. The decode table (spec 30 R303, 40 R403), the decoder, total on any bytes, and the encoder. -/

namespace Sys2Proof

open Machine

/-- The thirteen addressing modes (R301). -/
inductive Mode where
  | implied | accumulator | immediate | zeroPage | zeroPageX | zeroPageY | absolute | absoluteX | absoluteY
  | indirect | indexedIndirect | indirectIndexed | relative
  deriving DecidableEq, Repr

/-- An instruction's length in bytes, fixed by its mode (R301). -/
def Mode.length : Mode → Nat
  | .implied | .accumulator => 1
  | .immediate | .zeroPage | .zeroPageX | .zeroPageY | .indexedIndirect | .indirectIndexed | .relative => 2
  | .absolute | .absoluteX | .absoluteY | .indirect => 3

/-- Documented, undocumented but admitted, or refused (R303, R305, R310). -/
inductive Tier where
  | documented | illegal | refused
  deriving DecidableEq, Repr

/-- How an instruction is built from its operand bytes (R302). -/
inductive Form where
  | none (i : Instr)
  | byte (f : Byte → Instr)
  | word (f : Word → Instr)

/-- The number of bytes a form takes, the opcode included (R300). -/
def Form.length : Form → Nat
  | .none _ => 1
  | .byte _ => 2
  | .word _ => 3

/-- A row of the decode table (R403): mnemonic, mode (none for a refused opcode), base cycles, page penalty, tier, and
the instruction it yields. -/
structure OpRow where
  mnemonic : String
  mode : Option Mode
  baseCycles : Nat
  pagePenalty : Bool
  tier : Tier
  form : Form

/-- The number of bytes fetched for a row: for a refused opcode the opcode only (R310). -/
def OpRow.length (r : OpRow) : Nat := r.form.length

/-- Opcodes $00 to $0F (R303). -/
def opRow0 : List OpRow :=
  [⟨"BRK", some .implied, 7, false, .documented, .none .brk⟩,
   ⟨"ORA", some .indexedIndirect, 6, false, .documented, .byte .oraIndX⟩,
   ⟨"JAM", none, 0, false, .refused, .none .jam02⟩,
   ⟨"SLO", some .indexedIndirect, 8, false, .illegal, .byte .sloIndX⟩,
   ⟨"NOP", some .zeroPage, 3, false, .illegal, .byte .nopZp04⟩,
   ⟨"ORA", some .zeroPage, 3, false, .documented, .byte .oraZp⟩,
   ⟨"ASL", some .zeroPage, 5, false, .documented, .byte .aslZp⟩,
   ⟨"SLO", some .zeroPage, 5, false, .illegal, .byte .sloZp⟩] ++
  [⟨"PHP", some .implied, 3, false, .documented, .none .php⟩,
   ⟨"ORA", some .immediate, 2, false, .documented, .byte .oraImm⟩,
   ⟨"ASL", some .accumulator, 2, false, .documented, .none .aslAcc⟩,
   ⟨"ANC", some .immediate, 2, false, .illegal, .byte .ancImm0B⟩,
   ⟨"NOP", some .absolute, 4, false, .illegal, .word .nopAbs0C⟩,
   ⟨"ORA", some .absolute, 4, false, .documented, .word .oraAbs⟩,
   ⟨"ASL", some .absolute, 6, false, .documented, .word .aslAbs⟩,
   ⟨"SLO", some .absolute, 6, false, .illegal, .word .sloAbs⟩]

/-- Opcodes $10 to $1F (R303). -/
def opRow1 : List OpRow :=
  [⟨"BPL", some .relative, 2, false, .documented, .byte .bpl⟩,
   ⟨"ORA", some .indirectIndexed, 5, true, .documented, .byte .oraIndY⟩,
   ⟨"JAM", none, 0, false, .refused, .none .jam12⟩,
   ⟨"SLO", some .indirectIndexed, 8, false, .illegal, .byte .sloIndY⟩,
   ⟨"NOP", some .zeroPageX, 4, false, .illegal, .byte .nopZpX14⟩,
   ⟨"ORA", some .zeroPageX, 4, false, .documented, .byte .oraZpX⟩,
   ⟨"ASL", some .zeroPageX, 6, false, .documented, .byte .aslZpX⟩,
   ⟨"SLO", some .zeroPageX, 6, false, .illegal, .byte .sloZpX⟩] ++
  [⟨"CLC", some .implied, 2, false, .documented, .none .clc⟩,
   ⟨"ORA", some .absoluteY, 4, true, .documented, .word .oraAbsY⟩,
   ⟨"NOP", some .implied, 2, false, .illegal, .none .nopImp1A⟩,
   ⟨"SLO", some .absoluteY, 7, false, .illegal, .word .sloAbsY⟩,
   ⟨"NOP", some .absoluteX, 4, true, .illegal, .word .nopAbsX1C⟩,
   ⟨"ORA", some .absoluteX, 4, true, .documented, .word .oraAbsX⟩,
   ⟨"ASL", some .absoluteX, 7, false, .documented, .word .aslAbsX⟩,
   ⟨"SLO", some .absoluteX, 7, false, .illegal, .word .sloAbsX⟩]

/-- Opcodes $20 to $2F (R303). -/
def opRow2 : List OpRow :=
  [⟨"JSR", some .absolute, 6, false, .documented, .word .jsrAbs⟩,
   ⟨"AND", some .indexedIndirect, 6, false, .documented, .byte .andIndX⟩,
   ⟨"JAM", none, 0, false, .refused, .none .jam22⟩,
   ⟨"RLA", some .indexedIndirect, 8, false, .illegal, .byte .rlaIndX⟩,
   ⟨"BIT", some .zeroPage, 3, false, .documented, .byte .bitZp⟩,
   ⟨"AND", some .zeroPage, 3, false, .documented, .byte .andZp⟩,
   ⟨"ROL", some .zeroPage, 5, false, .documented, .byte .rolZp⟩,
   ⟨"RLA", some .zeroPage, 5, false, .illegal, .byte .rlaZp⟩] ++
  [⟨"PLP", some .implied, 4, false, .documented, .none .plp⟩,
   ⟨"AND", some .immediate, 2, false, .documented, .byte .andImm⟩,
   ⟨"ROL", some .accumulator, 2, false, .documented, .none .rolAcc⟩,
   ⟨"ANC", some .immediate, 2, false, .illegal, .byte .ancImm2B⟩,
   ⟨"BIT", some .absolute, 4, false, .documented, .word .bitAbs⟩,
   ⟨"AND", some .absolute, 4, false, .documented, .word .andAbs⟩,
   ⟨"ROL", some .absolute, 6, false, .documented, .word .rolAbs⟩,
   ⟨"RLA", some .absolute, 6, false, .illegal, .word .rlaAbs⟩]

/-- Opcodes $30 to $3F (R303). -/
def opRow3 : List OpRow :=
  [⟨"BMI", some .relative, 2, false, .documented, .byte .bmi⟩,
   ⟨"AND", some .indirectIndexed, 5, true, .documented, .byte .andIndY⟩,
   ⟨"JAM", none, 0, false, .refused, .none .jam32⟩,
   ⟨"RLA", some .indirectIndexed, 8, false, .illegal, .byte .rlaIndY⟩,
   ⟨"NOP", some .zeroPageX, 4, false, .illegal, .byte .nopZpX34⟩,
   ⟨"AND", some .zeroPageX, 4, false, .documented, .byte .andZpX⟩,
   ⟨"ROL", some .zeroPageX, 6, false, .documented, .byte .rolZpX⟩,
   ⟨"RLA", some .zeroPageX, 6, false, .illegal, .byte .rlaZpX⟩] ++
  [⟨"SEC", some .implied, 2, false, .documented, .none .sec⟩,
   ⟨"AND", some .absoluteY, 4, true, .documented, .word .andAbsY⟩,
   ⟨"NOP", some .implied, 2, false, .illegal, .none .nopImp3A⟩,
   ⟨"RLA", some .absoluteY, 7, false, .illegal, .word .rlaAbsY⟩,
   ⟨"NOP", some .absoluteX, 4, true, .illegal, .word .nopAbsX3C⟩,
   ⟨"AND", some .absoluteX, 4, true, .documented, .word .andAbsX⟩,
   ⟨"ROL", some .absoluteX, 7, false, .documented, .word .rolAbsX⟩,
   ⟨"RLA", some .absoluteX, 7, false, .illegal, .word .rlaAbsX⟩]

/-- Opcodes $40 to $4F (R303). -/
def opRow4 : List OpRow :=
  [⟨"RTI", some .implied, 6, false, .documented, .none .rti⟩,
   ⟨"EOR", some .indexedIndirect, 6, false, .documented, .byte .eorIndX⟩,
   ⟨"JAM", none, 0, false, .refused, .none .jam42⟩,
   ⟨"SRE", some .indexedIndirect, 8, false, .illegal, .byte .sreIndX⟩,
   ⟨"NOP", some .zeroPage, 3, false, .illegal, .byte .nopZp44⟩,
   ⟨"EOR", some .zeroPage, 3, false, .documented, .byte .eorZp⟩,
   ⟨"LSR", some .zeroPage, 5, false, .documented, .byte .lsrZp⟩,
   ⟨"SRE", some .zeroPage, 5, false, .illegal, .byte .sreZp⟩] ++
  [⟨"PHA", some .implied, 3, false, .documented, .none .pha⟩,
   ⟨"EOR", some .immediate, 2, false, .documented, .byte .eorImm⟩,
   ⟨"LSR", some .accumulator, 2, false, .documented, .none .lsrAcc⟩,
   ⟨"ALR", some .immediate, 2, false, .illegal, .byte .alrImm⟩,
   ⟨"JMP", some .absolute, 3, false, .documented, .word .jmpAbs⟩,
   ⟨"EOR", some .absolute, 4, false, .documented, .word .eorAbs⟩,
   ⟨"LSR", some .absolute, 6, false, .documented, .word .lsrAbs⟩,
   ⟨"SRE", some .absolute, 6, false, .illegal, .word .sreAbs⟩]

/-- Opcodes $50 to $5F (R303). -/
def opRow5 : List OpRow :=
  [⟨"BVC", some .relative, 2, false, .documented, .byte .bvc⟩,
   ⟨"EOR", some .indirectIndexed, 5, true, .documented, .byte .eorIndY⟩,
   ⟨"JAM", none, 0, false, .refused, .none .jam52⟩,
   ⟨"SRE", some .indirectIndexed, 8, false, .illegal, .byte .sreIndY⟩,
   ⟨"NOP", some .zeroPageX, 4, false, .illegal, .byte .nopZpX54⟩,
   ⟨"EOR", some .zeroPageX, 4, false, .documented, .byte .eorZpX⟩,
   ⟨"LSR", some .zeroPageX, 6, false, .documented, .byte .lsrZpX⟩,
   ⟨"SRE", some .zeroPageX, 6, false, .illegal, .byte .sreZpX⟩] ++
  [⟨"CLI", some .implied, 2, false, .documented, .none .cli⟩,
   ⟨"EOR", some .absoluteY, 4, true, .documented, .word .eorAbsY⟩,
   ⟨"NOP", some .implied, 2, false, .illegal, .none .nopImp5A⟩,
   ⟨"SRE", some .absoluteY, 7, false, .illegal, .word .sreAbsY⟩,
   ⟨"NOP", some .absoluteX, 4, true, .illegal, .word .nopAbsX5C⟩,
   ⟨"EOR", some .absoluteX, 4, true, .documented, .word .eorAbsX⟩,
   ⟨"LSR", some .absoluteX, 7, false, .documented, .word .lsrAbsX⟩,
   ⟨"SRE", some .absoluteX, 7, false, .illegal, .word .sreAbsX⟩]

/-- Opcodes $60 to $6F (R303). -/
def opRow6 : List OpRow :=
  [⟨"RTS", some .implied, 6, false, .documented, .none .rts⟩,
   ⟨"ADC", some .indexedIndirect, 6, false, .documented, .byte .adcIndX⟩,
   ⟨"JAM", none, 0, false, .refused, .none .jam62⟩,
   ⟨"RRA", some .indexedIndirect, 8, false, .illegal, .byte .rraIndX⟩,
   ⟨"NOP", some .zeroPage, 3, false, .illegal, .byte .nopZp64⟩,
   ⟨"ADC", some .zeroPage, 3, false, .documented, .byte .adcZp⟩,
   ⟨"ROR", some .zeroPage, 5, false, .documented, .byte .rorZp⟩,
   ⟨"RRA", some .zeroPage, 5, false, .illegal, .byte .rraZp⟩] ++
  [⟨"PLA", some .implied, 4, false, .documented, .none .pla⟩,
   ⟨"ADC", some .immediate, 2, false, .documented, .byte .adcImm⟩,
   ⟨"ROR", some .accumulator, 2, false, .documented, .none .rorAcc⟩,
   ⟨"ARR", some .immediate, 2, false, .illegal, .byte .arrImm⟩,
   ⟨"JMP", some .indirect, 5, false, .documented, .word .jmpInd⟩,
   ⟨"ADC", some .absolute, 4, false, .documented, .word .adcAbs⟩,
   ⟨"ROR", some .absolute, 6, false, .documented, .word .rorAbs⟩,
   ⟨"RRA", some .absolute, 6, false, .illegal, .word .rraAbs⟩]

/-- Opcodes $70 to $7F (R303). -/
def opRow7 : List OpRow :=
  [⟨"BVS", some .relative, 2, false, .documented, .byte .bvs⟩,
   ⟨"ADC", some .indirectIndexed, 5, true, .documented, .byte .adcIndY⟩,
   ⟨"JAM", none, 0, false, .refused, .none .jam72⟩,
   ⟨"RRA", some .indirectIndexed, 8, false, .illegal, .byte .rraIndY⟩,
   ⟨"NOP", some .zeroPageX, 4, false, .illegal, .byte .nopZpX74⟩,
   ⟨"ADC", some .zeroPageX, 4, false, .documented, .byte .adcZpX⟩,
   ⟨"ROR", some .zeroPageX, 6, false, .documented, .byte .rorZpX⟩,
   ⟨"RRA", some .zeroPageX, 6, false, .illegal, .byte .rraZpX⟩] ++
  [⟨"SEI", some .implied, 2, false, .documented, .none .sei⟩,
   ⟨"ADC", some .absoluteY, 4, true, .documented, .word .adcAbsY⟩,
   ⟨"NOP", some .implied, 2, false, .illegal, .none .nopImp7A⟩,
   ⟨"RRA", some .absoluteY, 7, false, .illegal, .word .rraAbsY⟩,
   ⟨"NOP", some .absoluteX, 4, true, .illegal, .word .nopAbsX7C⟩,
   ⟨"ADC", some .absoluteX, 4, true, .documented, .word .adcAbsX⟩,
   ⟨"ROR", some .absoluteX, 7, false, .documented, .word .rorAbsX⟩,
   ⟨"RRA", some .absoluteX, 7, false, .illegal, .word .rraAbsX⟩]

/-- Opcodes $80 to $8F (R303). -/
def opRow8 : List OpRow :=
  [⟨"NOP", some .immediate, 2, false, .illegal, .byte .nopImm80⟩,
   ⟨"STA", some .indexedIndirect, 6, false, .documented, .byte .staIndX⟩,
   ⟨"NOP", some .immediate, 2, false, .illegal, .byte .nopImm82⟩,
   ⟨"SAX", some .indexedIndirect, 6, false, .illegal, .byte .saxIndX⟩,
   ⟨"STY", some .zeroPage, 3, false, .documented, .byte .styZp⟩,
   ⟨"STA", some .zeroPage, 3, false, .documented, .byte .staZp⟩,
   ⟨"STX", some .zeroPage, 3, false, .documented, .byte .stxZp⟩,
   ⟨"SAX", some .zeroPage, 3, false, .illegal, .byte .saxZp⟩] ++
  [⟨"DEY", some .implied, 2, false, .documented, .none .dey⟩,
   ⟨"NOP", some .immediate, 2, false, .illegal, .byte .nopImm89⟩,
   ⟨"TXA", some .implied, 2, false, .documented, .none .txa⟩,
   ⟨"XAA", none, 0, false, .refused, .none .xaa8B⟩,
   ⟨"STY", some .absolute, 4, false, .documented, .word .styAbs⟩,
   ⟨"STA", some .absolute, 4, false, .documented, .word .staAbs⟩,
   ⟨"STX", some .absolute, 4, false, .documented, .word .stxAbs⟩,
   ⟨"SAX", some .absolute, 4, false, .illegal, .word .saxAbs⟩]

/-- Opcodes $90 to $9F (R303). -/
def opRow9 : List OpRow :=
  [⟨"BCC", some .relative, 2, false, .documented, .byte .bcc⟩,
   ⟨"STA", some .indirectIndexed, 6, false, .documented, .byte .staIndY⟩,
   ⟨"JAM", none, 0, false, .refused, .none .jam92⟩,
   ⟨"SHA", none, 0, false, .refused, .none .sha93⟩,
   ⟨"STY", some .zeroPageX, 4, false, .documented, .byte .styZpX⟩,
   ⟨"STA", some .zeroPageX, 4, false, .documented, .byte .staZpX⟩,
   ⟨"STX", some .zeroPageY, 4, false, .documented, .byte .stxZpY⟩,
   ⟨"SAX", some .zeroPageY, 4, false, .illegal, .byte .saxZpY⟩] ++
  [⟨"TYA", some .implied, 2, false, .documented, .none .tya⟩,
   ⟨"STA", some .absoluteY, 5, false, .documented, .word .staAbsY⟩,
   ⟨"TXS", some .implied, 2, false, .documented, .none .txs⟩,
   ⟨"TAS", none, 0, false, .refused, .none .tas9B⟩,
   ⟨"SHY", none, 0, false, .refused, .none .shy9C⟩,
   ⟨"STA", some .absoluteX, 5, false, .documented, .word .staAbsX⟩,
   ⟨"SHX", none, 0, false, .refused, .none .shx9E⟩,
   ⟨"SHA", none, 0, false, .refused, .none .sha9F⟩]

/-- Opcodes $A0 to $AF (R303). -/
def opRowA : List OpRow :=
  [⟨"LDY", some .immediate, 2, false, .documented, .byte .ldyImm⟩,
   ⟨"LDA", some .indexedIndirect, 6, false, .documented, .byte .ldaIndX⟩,
   ⟨"LDX", some .immediate, 2, false, .documented, .byte .ldxImm⟩,
   ⟨"LAX", some .indexedIndirect, 6, false, .illegal, .byte .laxIndX⟩,
   ⟨"LDY", some .zeroPage, 3, false, .documented, .byte .ldyZp⟩,
   ⟨"LDA", some .zeroPage, 3, false, .documented, .byte .ldaZp⟩,
   ⟨"LDX", some .zeroPage, 3, false, .documented, .byte .ldxZp⟩,
   ⟨"LAX", some .zeroPage, 3, false, .illegal, .byte .laxZp⟩] ++
  [⟨"TAY", some .implied, 2, false, .documented, .none .tay⟩,
   ⟨"LDA", some .immediate, 2, false, .documented, .byte .ldaImm⟩,
   ⟨"TAX", some .implied, 2, false, .documented, .none .tax⟩,
   ⟨"LXA", none, 0, false, .refused, .none .lxaAB⟩,
   ⟨"LDY", some .absolute, 4, false, .documented, .word .ldyAbs⟩,
   ⟨"LDA", some .absolute, 4, false, .documented, .word .ldaAbs⟩,
   ⟨"LDX", some .absolute, 4, false, .documented, .word .ldxAbs⟩,
   ⟨"LAX", some .absolute, 4, false, .illegal, .word .laxAbs⟩]

/-- Opcodes $B0 to $BF (R303). -/
def opRowB : List OpRow :=
  [⟨"BCS", some .relative, 2, false, .documented, .byte .bcs⟩,
   ⟨"LDA", some .indirectIndexed, 5, true, .documented, .byte .ldaIndY⟩,
   ⟨"JAM", none, 0, false, .refused, .none .jamB2⟩,
   ⟨"LAX", some .indirectIndexed, 5, true, .illegal, .byte .laxIndY⟩,
   ⟨"LDY", some .zeroPageX, 4, false, .documented, .byte .ldyZpX⟩,
   ⟨"LDA", some .zeroPageX, 4, false, .documented, .byte .ldaZpX⟩,
   ⟨"LDX", some .zeroPageY, 4, false, .documented, .byte .ldxZpY⟩,
   ⟨"LAX", some .zeroPageY, 4, false, .illegal, .byte .laxZpY⟩] ++
  [⟨"CLV", some .implied, 2, false, .documented, .none .clv⟩,
   ⟨"LDA", some .absoluteY, 4, true, .documented, .word .ldaAbsY⟩,
   ⟨"TSX", some .implied, 2, false, .documented, .none .tsx⟩,
   ⟨"LAS", none, 0, false, .refused, .none .lasBB⟩,
   ⟨"LDY", some .absoluteX, 4, true, .documented, .word .ldyAbsX⟩,
   ⟨"LDA", some .absoluteX, 4, true, .documented, .word .ldaAbsX⟩,
   ⟨"LDX", some .absoluteY, 4, true, .documented, .word .ldxAbsY⟩,
   ⟨"LAX", some .absoluteY, 4, true, .illegal, .word .laxAbsY⟩]

/-- Opcodes $C0 to $CF (R303). -/
def opRowC : List OpRow :=
  [⟨"CPY", some .immediate, 2, false, .documented, .byte .cpyImm⟩,
   ⟨"CMP", some .indexedIndirect, 6, false, .documented, .byte .cmpIndX⟩,
   ⟨"NOP", some .immediate, 2, false, .illegal, .byte .nopImmC2⟩,
   ⟨"DCP", some .indexedIndirect, 8, false, .illegal, .byte .dcpIndX⟩,
   ⟨"CPY", some .zeroPage, 3, false, .documented, .byte .cpyZp⟩,
   ⟨"CMP", some .zeroPage, 3, false, .documented, .byte .cmpZp⟩,
   ⟨"DEC", some .zeroPage, 5, false, .documented, .byte .decZp⟩,
   ⟨"DCP", some .zeroPage, 5, false, .illegal, .byte .dcpZp⟩] ++
  [⟨"INY", some .implied, 2, false, .documented, .none .iny⟩,
   ⟨"CMP", some .immediate, 2, false, .documented, .byte .cmpImm⟩,
   ⟨"DEX", some .implied, 2, false, .documented, .none .dex⟩,
   ⟨"AXS", some .immediate, 2, false, .illegal, .byte .axsImm⟩,
   ⟨"CPY", some .absolute, 4, false, .documented, .word .cpyAbs⟩,
   ⟨"CMP", some .absolute, 4, false, .documented, .word .cmpAbs⟩,
   ⟨"DEC", some .absolute, 6, false, .documented, .word .decAbs⟩,
   ⟨"DCP", some .absolute, 6, false, .illegal, .word .dcpAbs⟩]

/-- Opcodes $D0 to $DF (R303). -/
def opRowD : List OpRow :=
  [⟨"BNE", some .relative, 2, false, .documented, .byte .bne⟩,
   ⟨"CMP", some .indirectIndexed, 5, true, .documented, .byte .cmpIndY⟩,
   ⟨"JAM", none, 0, false, .refused, .none .jamD2⟩,
   ⟨"DCP", some .indirectIndexed, 8, false, .illegal, .byte .dcpIndY⟩,
   ⟨"NOP", some .zeroPageX, 4, false, .illegal, .byte .nopZpXD4⟩,
   ⟨"CMP", some .zeroPageX, 4, false, .documented, .byte .cmpZpX⟩,
   ⟨"DEC", some .zeroPageX, 6, false, .documented, .byte .decZpX⟩,
   ⟨"DCP", some .zeroPageX, 6, false, .illegal, .byte .dcpZpX⟩] ++
  [⟨"CLD", some .implied, 2, false, .documented, .none .cld⟩,
   ⟨"CMP", some .absoluteY, 4, true, .documented, .word .cmpAbsY⟩,
   ⟨"NOP", some .implied, 2, false, .illegal, .none .nopImpDA⟩,
   ⟨"DCP", some .absoluteY, 7, false, .illegal, .word .dcpAbsY⟩,
   ⟨"NOP", some .absoluteX, 4, true, .illegal, .word .nopAbsXDC⟩,
   ⟨"CMP", some .absoluteX, 4, true, .documented, .word .cmpAbsX⟩,
   ⟨"DEC", some .absoluteX, 7, false, .documented, .word .decAbsX⟩,
   ⟨"DCP", some .absoluteX, 7, false, .illegal, .word .dcpAbsX⟩]

/-- Opcodes $E0 to $EF (R303). -/
def opRowE : List OpRow :=
  [⟨"CPX", some .immediate, 2, false, .documented, .byte .cpxImm⟩,
   ⟨"SBC", some .indexedIndirect, 6, false, .documented, .byte .sbcIndX⟩,
   ⟨"NOP", some .immediate, 2, false, .illegal, .byte .nopImmE2⟩,
   ⟨"ISB", some .indexedIndirect, 8, false, .illegal, .byte .isbIndX⟩,
   ⟨"CPX", some .zeroPage, 3, false, .documented, .byte .cpxZp⟩,
   ⟨"SBC", some .zeroPage, 3, false, .documented, .byte .sbcZp⟩,
   ⟨"INC", some .zeroPage, 5, false, .documented, .byte .incZp⟩,
   ⟨"ISB", some .zeroPage, 5, false, .illegal, .byte .isbZp⟩] ++
  [⟨"INX", some .implied, 2, false, .documented, .none .inx⟩,
   ⟨"SBC", some .immediate, 2, false, .documented, .byte .sbcImm⟩,
   ⟨"NOP", some .implied, 2, false, .documented, .none .nop⟩,
   ⟨"SBC", some .immediate, 2, false, .illegal, .byte .sbcImmEB⟩,
   ⟨"CPX", some .absolute, 4, false, .documented, .word .cpxAbs⟩,
   ⟨"SBC", some .absolute, 4, false, .documented, .word .sbcAbs⟩,
   ⟨"INC", some .absolute, 6, false, .documented, .word .incAbs⟩,
   ⟨"ISB", some .absolute, 6, false, .illegal, .word .isbAbs⟩]

/-- Opcodes $F0 to $FF (R303). -/
def opRowF : List OpRow :=
  [⟨"BEQ", some .relative, 2, false, .documented, .byte .beq⟩,
   ⟨"SBC", some .indirectIndexed, 5, true, .documented, .byte .sbcIndY⟩,
   ⟨"JAM", none, 0, false, .refused, .none .jamF2⟩,
   ⟨"ISB", some .indirectIndexed, 8, false, .illegal, .byte .isbIndY⟩,
   ⟨"NOP", some .zeroPageX, 4, false, .illegal, .byte .nopZpXF4⟩,
   ⟨"SBC", some .zeroPageX, 4, false, .documented, .byte .sbcZpX⟩,
   ⟨"INC", some .zeroPageX, 6, false, .documented, .byte .incZpX⟩,
   ⟨"ISB", some .zeroPageX, 6, false, .illegal, .byte .isbZpX⟩] ++
  [⟨"SED", some .implied, 2, false, .documented, .none .sed⟩,
   ⟨"SBC", some .absoluteY, 4, true, .documented, .word .sbcAbsY⟩,
   ⟨"NOP", some .implied, 2, false, .illegal, .none .nopImpFA⟩,
   ⟨"ISB", some .absoluteY, 7, false, .illegal, .word .isbAbsY⟩,
   ⟨"NOP", some .absoluteX, 4, true, .illegal, .word .nopAbsXFC⟩,
   ⟨"SBC", some .absoluteX, 4, true, .documented, .word .sbcAbsX⟩,
   ⟨"INC", some .absoluteX, 7, false, .documented, .word .incAbsX⟩,
   ⟨"ISB", some .absoluteX, 7, false, .illegal, .word .isbAbsX⟩]

/-- The decode table by high and low nibble of the opcode byte (R303). -/
def opTable : List (List OpRow) :=
  [opRow0, opRow1, opRow2, opRow3, opRow4, opRow5, opRow6, opRow7] ++
  [opRow8, opRow9, opRowA, opRowB, opRowC, opRowD, opRowE, opRowF]

/-- What stands outside the table; no opcode byte reaches it. -/
def noRow : OpRow := ⟨"JAM", none, 0, false, .refused, .none .jam02⟩

/-- `DecodeTable[op]` (R403). -/
def rowOf (op : Byte) : OpRow := (opTable.getD (op.toNat / 16) []).getD (op.toNat % 16) noRow

/-- How many bytes the instruction with this opcode byte has (R300). -/
def lengthOf (op : Byte) : Nat := (rowOf op).length

/-- The instruction of an opcode byte and its operand bytes, low byte first (R302); those its row has no room for are
not looked at. -/
def instrOf (op b1 b2 : Byte) : Instr :=
  match (rowOf op).form with
  | .none i => i
  | .byte f => f b1
  | .word f => f (wordOf b1 b2)

/-- What decoding a list of bytes gives. -/
inductive Decoded where
  /-- An instruction and the bytes after it. -/
  | instr (i : Instr) (rest : List Byte)
  /-- There is no byte to decode. -/
  | noBytes
  /-- The bytes end before the operands of this opcode do. -/
  | truncated (op : Byte)
  deriving DecidableEq, Repr

/-- Decode the instruction at the head of a list of bytes (R300). -/
def decode : List Byte → Decoded
  | [] => .noBytes
  | op :: rest =>
    if rest.length + 1 < lengthOf op then .truncated op
    else .instr (instrOf op (rest.getD 0 0) (rest.getD 1 0)) (rest.drop (lengthOf op - 1))

/-- Byte `k` of a table word: bit 0 is the least significant bit of the first byte, and later bytes count on. -/
def tableByte (nbits w k : Nat) : Byte := BitVec.ofNat 8 ((w % 2 ^ nbits) / 2 ^ (8 * k))

/-- The instruction the decoder reads from a word of spec/opcode_table.json's `nbits` bits, the bits above them 0. -/
def decodeTableWord (nbits w : Nat) : Option Instr :=
  match decode [tableByte nbits w 0, tableByte nbits w 1, tableByte nbits w 2] with
  | .instr i _ => some i
  | .noBytes => none
  | .truncated _ => none

/-- The bytes of an instruction: the opcode byte, then its operand bytes, low byte first (R300, R302, R303). -/
def encode : Instr → List Byte
  | .brk => [0x00]
  | .oraIndX b => [0x01, b]
  | .jam02 => [0x02]
  | .sloIndX b => [0x03, b]
  | .nopZp04 b => [0x04, b]
  | .oraZp b => [0x05, b]
  | .aslZp b => [0x06, b]
  | .sloZp b => [0x07, b]
  | .php => [0x08]
  | .oraImm b => [0x09, b]
  | .aslAcc => [0x0A]
  | .ancImm0B b => [0x0B, b]
  | .nopAbs0C a => [0x0C, loByte a, hiByte a]
  | .oraAbs a => [0x0D, loByte a, hiByte a]
  | .aslAbs a => [0x0E, loByte a, hiByte a]
  | .sloAbs a => [0x0F, loByte a, hiByte a]
  | .bpl b => [0x10, b]
  | .oraIndY b => [0x11, b]
  | .jam12 => [0x12]
  | .sloIndY b => [0x13, b]
  | .nopZpX14 b => [0x14, b]
  | .oraZpX b => [0x15, b]
  | .aslZpX b => [0x16, b]
  | .sloZpX b => [0x17, b]
  | .clc => [0x18]
  | .oraAbsY a => [0x19, loByte a, hiByte a]
  | .nopImp1A => [0x1A]
  | .sloAbsY a => [0x1B, loByte a, hiByte a]
  | .nopAbsX1C a => [0x1C, loByte a, hiByte a]
  | .oraAbsX a => [0x1D, loByte a, hiByte a]
  | .aslAbsX a => [0x1E, loByte a, hiByte a]
  | .sloAbsX a => [0x1F, loByte a, hiByte a]
  | .jsrAbs a => [0x20, loByte a, hiByte a]
  | .andIndX b => [0x21, b]
  | .jam22 => [0x22]
  | .rlaIndX b => [0x23, b]
  | .bitZp b => [0x24, b]
  | .andZp b => [0x25, b]
  | .rolZp b => [0x26, b]
  | .rlaZp b => [0x27, b]
  | .plp => [0x28]
  | .andImm b => [0x29, b]
  | .rolAcc => [0x2A]
  | .ancImm2B b => [0x2B, b]
  | .bitAbs a => [0x2C, loByte a, hiByte a]
  | .andAbs a => [0x2D, loByte a, hiByte a]
  | .rolAbs a => [0x2E, loByte a, hiByte a]
  | .rlaAbs a => [0x2F, loByte a, hiByte a]
  | .bmi b => [0x30, b]
  | .andIndY b => [0x31, b]
  | .jam32 => [0x32]
  | .rlaIndY b => [0x33, b]
  | .nopZpX34 b => [0x34, b]
  | .andZpX b => [0x35, b]
  | .rolZpX b => [0x36, b]
  | .rlaZpX b => [0x37, b]
  | .sec => [0x38]
  | .andAbsY a => [0x39, loByte a, hiByte a]
  | .nopImp3A => [0x3A]
  | .rlaAbsY a => [0x3B, loByte a, hiByte a]
  | .nopAbsX3C a => [0x3C, loByte a, hiByte a]
  | .andAbsX a => [0x3D, loByte a, hiByte a]
  | .rolAbsX a => [0x3E, loByte a, hiByte a]
  | .rlaAbsX a => [0x3F, loByte a, hiByte a]
  | .rti => [0x40]
  | .eorIndX b => [0x41, b]
  | .jam42 => [0x42]
  | .sreIndX b => [0x43, b]
  | .nopZp44 b => [0x44, b]
  | .eorZp b => [0x45, b]
  | .lsrZp b => [0x46, b]
  | .sreZp b => [0x47, b]
  | .pha => [0x48]
  | .eorImm b => [0x49, b]
  | .lsrAcc => [0x4A]
  | .alrImm b => [0x4B, b]
  | .jmpAbs a => [0x4C, loByte a, hiByte a]
  | .eorAbs a => [0x4D, loByte a, hiByte a]
  | .lsrAbs a => [0x4E, loByte a, hiByte a]
  | .sreAbs a => [0x4F, loByte a, hiByte a]
  | .bvc b => [0x50, b]
  | .eorIndY b => [0x51, b]
  | .jam52 => [0x52]
  | .sreIndY b => [0x53, b]
  | .nopZpX54 b => [0x54, b]
  | .eorZpX b => [0x55, b]
  | .lsrZpX b => [0x56, b]
  | .sreZpX b => [0x57, b]
  | .cli => [0x58]
  | .eorAbsY a => [0x59, loByte a, hiByte a]
  | .nopImp5A => [0x5A]
  | .sreAbsY a => [0x5B, loByte a, hiByte a]
  | .nopAbsX5C a => [0x5C, loByte a, hiByte a]
  | .eorAbsX a => [0x5D, loByte a, hiByte a]
  | .lsrAbsX a => [0x5E, loByte a, hiByte a]
  | .sreAbsX a => [0x5F, loByte a, hiByte a]
  | .rts => [0x60]
  | .adcIndX b => [0x61, b]
  | .jam62 => [0x62]
  | .rraIndX b => [0x63, b]
  | .nopZp64 b => [0x64, b]
  | .adcZp b => [0x65, b]
  | .rorZp b => [0x66, b]
  | .rraZp b => [0x67, b]
  | .pla => [0x68]
  | .adcImm b => [0x69, b]
  | .rorAcc => [0x6A]
  | .arrImm b => [0x6B, b]
  | .jmpInd a => [0x6C, loByte a, hiByte a]
  | .adcAbs a => [0x6D, loByte a, hiByte a]
  | .rorAbs a => [0x6E, loByte a, hiByte a]
  | .rraAbs a => [0x6F, loByte a, hiByte a]
  | .bvs b => [0x70, b]
  | .adcIndY b => [0x71, b]
  | .jam72 => [0x72]
  | .rraIndY b => [0x73, b]
  | .nopZpX74 b => [0x74, b]
  | .adcZpX b => [0x75, b]
  | .rorZpX b => [0x76, b]
  | .rraZpX b => [0x77, b]
  | .sei => [0x78]
  | .adcAbsY a => [0x79, loByte a, hiByte a]
  | .nopImp7A => [0x7A]
  | .rraAbsY a => [0x7B, loByte a, hiByte a]
  | .nopAbsX7C a => [0x7C, loByte a, hiByte a]
  | .adcAbsX a => [0x7D, loByte a, hiByte a]
  | .rorAbsX a => [0x7E, loByte a, hiByte a]
  | .rraAbsX a => [0x7F, loByte a, hiByte a]
  | .nopImm80 b => [0x80, b]
  | .staIndX b => [0x81, b]
  | .nopImm82 b => [0x82, b]
  | .saxIndX b => [0x83, b]
  | .styZp b => [0x84, b]
  | .staZp b => [0x85, b]
  | .stxZp b => [0x86, b]
  | .saxZp b => [0x87, b]
  | .dey => [0x88]
  | .nopImm89 b => [0x89, b]
  | .txa => [0x8A]
  | .xaa8B => [0x8B]
  | .styAbs a => [0x8C, loByte a, hiByte a]
  | .staAbs a => [0x8D, loByte a, hiByte a]
  | .stxAbs a => [0x8E, loByte a, hiByte a]
  | .saxAbs a => [0x8F, loByte a, hiByte a]
  | .bcc b => [0x90, b]
  | .staIndY b => [0x91, b]
  | .jam92 => [0x92]
  | .sha93 => [0x93]
  | .styZpX b => [0x94, b]
  | .staZpX b => [0x95, b]
  | .stxZpY b => [0x96, b]
  | .saxZpY b => [0x97, b]
  | .tya => [0x98]
  | .staAbsY a => [0x99, loByte a, hiByte a]
  | .txs => [0x9A]
  | .tas9B => [0x9B]
  | .shy9C => [0x9C]
  | .staAbsX a => [0x9D, loByte a, hiByte a]
  | .shx9E => [0x9E]
  | .sha9F => [0x9F]
  | .ldyImm b => [0xA0, b]
  | .ldaIndX b => [0xA1, b]
  | .ldxImm b => [0xA2, b]
  | .laxIndX b => [0xA3, b]
  | .ldyZp b => [0xA4, b]
  | .ldaZp b => [0xA5, b]
  | .ldxZp b => [0xA6, b]
  | .laxZp b => [0xA7, b]
  | .tay => [0xA8]
  | .ldaImm b => [0xA9, b]
  | .tax => [0xAA]
  | .lxaAB => [0xAB]
  | .ldyAbs a => [0xAC, loByte a, hiByte a]
  | .ldaAbs a => [0xAD, loByte a, hiByte a]
  | .ldxAbs a => [0xAE, loByte a, hiByte a]
  | .laxAbs a => [0xAF, loByte a, hiByte a]
  | .bcs b => [0xB0, b]
  | .ldaIndY b => [0xB1, b]
  | .jamB2 => [0xB2]
  | .laxIndY b => [0xB3, b]
  | .ldyZpX b => [0xB4, b]
  | .ldaZpX b => [0xB5, b]
  | .ldxZpY b => [0xB6, b]
  | .laxZpY b => [0xB7, b]
  | .clv => [0xB8]
  | .ldaAbsY a => [0xB9, loByte a, hiByte a]
  | .tsx => [0xBA]
  | .lasBB => [0xBB]
  | .ldyAbsX a => [0xBC, loByte a, hiByte a]
  | .ldaAbsX a => [0xBD, loByte a, hiByte a]
  | .ldxAbsY a => [0xBE, loByte a, hiByte a]
  | .laxAbsY a => [0xBF, loByte a, hiByte a]
  | .cpyImm b => [0xC0, b]
  | .cmpIndX b => [0xC1, b]
  | .nopImmC2 b => [0xC2, b]
  | .dcpIndX b => [0xC3, b]
  | .cpyZp b => [0xC4, b]
  | .cmpZp b => [0xC5, b]
  | .decZp b => [0xC6, b]
  | .dcpZp b => [0xC7, b]
  | .iny => [0xC8]
  | .cmpImm b => [0xC9, b]
  | .dex => [0xCA]
  | .axsImm b => [0xCB, b]
  | .cpyAbs a => [0xCC, loByte a, hiByte a]
  | .cmpAbs a => [0xCD, loByte a, hiByte a]
  | .decAbs a => [0xCE, loByte a, hiByte a]
  | .dcpAbs a => [0xCF, loByte a, hiByte a]
  | .bne b => [0xD0, b]
  | .cmpIndY b => [0xD1, b]
  | .jamD2 => [0xD2]
  | .dcpIndY b => [0xD3, b]
  | .nopZpXD4 b => [0xD4, b]
  | .cmpZpX b => [0xD5, b]
  | .decZpX b => [0xD6, b]
  | .dcpZpX b => [0xD7, b]
  | .cld => [0xD8]
  | .cmpAbsY a => [0xD9, loByte a, hiByte a]
  | .nopImpDA => [0xDA]
  | .dcpAbsY a => [0xDB, loByte a, hiByte a]
  | .nopAbsXDC a => [0xDC, loByte a, hiByte a]
  | .cmpAbsX a => [0xDD, loByte a, hiByte a]
  | .decAbsX a => [0xDE, loByte a, hiByte a]
  | .dcpAbsX a => [0xDF, loByte a, hiByte a]
  | .cpxImm b => [0xE0, b]
  | .sbcIndX b => [0xE1, b]
  | .nopImmE2 b => [0xE2, b]
  | .isbIndX b => [0xE3, b]
  | .cpxZp b => [0xE4, b]
  | .sbcZp b => [0xE5, b]
  | .incZp b => [0xE6, b]
  | .isbZp b => [0xE7, b]
  | .inx => [0xE8]
  | .sbcImm b => [0xE9, b]
  | .nop => [0xEA]
  | .sbcImmEB b => [0xEB, b]
  | .cpxAbs a => [0xEC, loByte a, hiByte a]
  | .sbcAbs a => [0xED, loByte a, hiByte a]
  | .incAbs a => [0xEE, loByte a, hiByte a]
  | .isbAbs a => [0xEF, loByte a, hiByte a]
  | .beq b => [0xF0, b]
  | .sbcIndY b => [0xF1, b]
  | .jamF2 => [0xF2]
  | .isbIndY b => [0xF3, b]
  | .nopZpXF4 b => [0xF4, b]
  | .sbcZpX b => [0xF5, b]
  | .incZpX b => [0xF6, b]
  | .isbZpX b => [0xF7, b]
  | .sed => [0xF8]
  | .sbcAbsY a => [0xF9, loByte a, hiByte a]
  | .nopImpFA => [0xFA]
  | .isbAbsY a => [0xFB, loByte a, hiByte a]
  | .nopAbsXFC a => [0xFC, loByte a, hiByte a]
  | .sbcAbsX a => [0xFD, loByte a, hiByte a]
  | .incAbsX a => [0xFE, loByte a, hiByte a]
  | .isbAbsX a => [0xFF, loByte a, hiByte a]

/-- The opcode byte of an instruction. -/
def Instr.opcode (i : Instr) : Byte := (encode i).headD 0

/-- The decode table's row of an instruction. -/
def Instr.row (i : Instr) : OpRow := rowOf i.opcode

end Sys2Proof
end

