-- ==== Sys2Proof/Config.lean ====
section
/-! DEFINITION. What is fixed for the machine but not by its rules: the named parameters of spec 00 R15 that have a
default, as one record (log 6), and the values the spec leaves open, which have no body here, so that nothing can be
proved about them (logs 3, 4, 5). -/

namespace Sys2Proof.Config

/-- MAPPER_SET (R15, R260): the mappers the loader accepts. -/
inductive MapperSet where
  | nrom
  | nromAndMmc3
  deriving DecidableEq, Repr

/-- The parameters of the step and of the loader that R15 names and gives a default (R170): a field omitted has the
spec's default (92 D5, D7, D12, D29, D40). -/
structure Settings where
  /-- RMW_DUMMY_WRITE (R502): a memory read-modify-write writes the unmodified byte back first. -/
  rmwDummyWrite : Bool := true
  /-- IRQ_AUTOACK_MAPPER (R711): taking an IRQ asks the mapper to clear its line. -/
  irqAutoackMapper : Bool := false
  /-- DMA_ODD_EXTRA (R236): an OAM-DMA that begins on an odd cycle stalls one cycle more. -/
  dmaOddExtra : Bool := true
  /-- A12_FILTER_DOTS (R297): how long A12 must have been low before its rise counts. -/
  a12FilterDots : Nat := 12
  /-- MAPPER_SET (R260). -/
  mapperSet : MapperSet := .nromAndMmc3
  deriving DecidableEq, Repr

/-- OPEN_BUS_VALUE (R15, R209): the byte an undecoded read returns at the `n`-th draw. FREE: no body. -/
opaque openBusValue : Nat → Byte

/-- WO_REG_VALUE (R15, R795): the byte a read of a write-only PPU register returns at the `n`-th draw.
FREE: no body. -/
opaque woRegValue : Nat → Byte

/-- NTSC_PALETTE (R15, R840): the red, green and blue bytes of a 6-bit colour; alpha is always 0xFF.
FREE: no body. -/
opaque ntscPalette : BitVec 6 → BitVec 24

/-- MIX (R15, R970): the float-32 bit pattern of a sample, from the five channel outputs (pulse 1, pulse 2,
triangle, noise, DMC) and the exact value of the mixer formula; only the rounding is open. FREE: no body. -/
opaque mixRound : Nat → Nat → Nat → Nat → Nat → Rat → BitVec 32

end Sys2Proof.Config
end

