-- ==== Sys2Proof/Machine/State.lean ====
section
/-! DEFINITION. The state of the CORE as plain data (spec 10, rules R100-R162), the reasons a step can stop,
and the state right after reset (R112, R1000, R1001). -/

namespace Sys2Proof.Machine

/-- Bytes by index, one entry (index, byte) per listed byte: indexes strictly rising, and no entry equal to
what an unlisted index reads as (`Memory.wf`, `Memory.unlisted`). -/
abbrev Memory := List Host.Cell

/-- The pixels by row and column, rows and columns strictly rising; an unlisted pixel is 0 (R140). -/
abbrev Framebuffer := List (Nat × List (Nat × BitVec 32))

/-- The stored bits of the status register P (R101): carry, zero, IRQ-disable, decimal, overflow, negative.
Bit 4 (B) is not a real bit and bit 5 (U) is always 1 (R102, R103): neither is stored. -/
structure Flags where
  c : Bool := false
  z : Bool := false
  i : Bool := false
  d : Bool := false
  v : Bool := false
  n : Bool := false
  deriving DecidableEq, Repr

/-- The CPU registers (R100-R107) and the hidden interrupt state (R108-R110). -/
structure Cpu where
  a : Byte := 0
  x : Byte := 0
  y : Byte := 0
  sp : Byte := 0
  pc : Word := 0
  flags : Flags := {}
  cycles : Nat := 0
  nmiPending : Bool := false
  hostIrq : Bool := false
  refused : Bool := false
  deriving DecidableEq, Repr

/-- The bus (R120). `draws` is the model's own: how many free bytes have been drawn (log 3). -/
structure Bus where
  ram : Memory := []
  input0 : Byte := 0
  input1 : Byte := 0
  shift0 : Byte := 0
  shift1 : Byte := 0
  strobe : Bool := false
  openBus : Byte := 0xFF
  dmaPage : Byte := 0
  dmaPending : Bool := false
  draws : Nat := 0
  deriving DecidableEq, Repr

/-- One sprite slot (R139). -/
structure SpriteSlot where
  lo : Byte := 0
  hi : Byte := 0
  x : Byte := 0
  attr : Byte := 0
  idx : BitVec 6 := 0
  addr : PpuAddr := 0
  deriving DecidableEq, Repr

/-- The PPU (R130-R140). PPUSTATUS is kept as its three stored bits (R133). -/
structure Ppu where
  scanline : Nat := 0
  dot : Nat := 0
  frame : Nat := 0
  oddFrame : Bool := false
  frameReady : Bool := false
  ctrl : Byte := 0
  mask : Byte := 0
  vblank : Bool := false
  spriteZeroHit : Bool := false
  overflow : Bool := false
  oamAddr : Byte := 0
  v : Loopy := 0
  t : Loopy := 0
  fineX : BitVec 3 := 0
  w : Bool := false
  readBuffer : Byte := 0
  ntRam : Memory := []
  palette : Memory := []
  oam : Memory := []
  oam2 : Memory := []
  bgNt : Byte := 0
  bgAt : BitVec 2 := 0
  bgLo : Byte := 0
  bgHi : Byte := 0
  shLo : BitVec 16 := 0
  shHi : BitVec 16 := 0
  shAtLo : Byte := 0
  shAtHi : Byte := 0
  atLatchLo : Bool := false
  atLatchHi : Bool := false
  sprCount : Nat := 0
  slots : List SpriteSlot := List.replicate 8 {}
  framebuffer : Framebuffer := []
  deriving DecidableEq, Repr

/-- An envelope unit with its control bits (R150, R152): `halt` is the length halt and the envelope loop. -/
structure Envelope where
  halt : Bool := false
  constVol : Bool := false
  vol : BitVec 4 := 0
  start : Bool := false
  div : BitVec 4 := 0
  decay : BitVec 4 := 0
  deriving DecidableEq, Repr

/-- A pulse channel (R150). -/
structure Pulse where
  duty : BitVec 2 := 0
  env : Envelope := {}
  swEn : Bool := false
  swPeriod : BitVec 3 := 0
  swNeg : Bool := false
  swShift : BitVec 3 := 0
  swReload : Bool := false
  swDiv : BitVec 3 := 0
  timerLoad : BitVec 11 := 0
  timer : BitVec 11 := 0
  seq : BitVec 3 := 0
  length : Byte := 0
  enabled : Bool := false
  deriving DecidableEq, Repr

/-- The triangle channel (R151). -/
structure Triangle where
  control : Bool := false
  linLoad : BitVec 7 := 0
  lin : BitVec 7 := 0
  linReload : Bool := false
  timerLoad : BitVec 11 := 0
  timer : BitVec 11 := 0
  seq : BitVec 5 := 0
  length : Byte := 0
  enabled : Bool := false
  deriving DecidableEq, Repr

/-- The noise channel (R152). -/
structure Noise where
  env : Envelope := {}
  mode : Bool := false
  periodIdx : BitVec 4 := 0
  timer : BitVec 12 := 0
  lfsr : BitVec 15 := 1
  length : Byte := 0
  enabled : Bool := false
  deriving DecidableEq, Repr

/-- The delta-modulation channel (R153). -/
structure Dmc where
  irqEn : Bool := false
  loop : Bool := false
  rateIdx : BitVec 4 := 0
  timer : BitVec 9 := 0
  level : BitVec 7 := 0
  sampleAddrReg : Byte := 0
  sampleLenReg : Byte := 0
  curAddr : Word := 0
  bytesLeft : BitVec 12 := 0
  buffer : Byte := 0
  bufferFull : Bool := false
  shifter : Byte := 0
  bitsLeft : BitVec 4 := 8
  silence : Bool := true
  enabled : Bool := false
  deriving DecidableEq, Repr

/-- The APU (R150-R155). The defaults are the reset values of R156. -/
structure Apu where
  p1 : Pulse := {}
  p2 : Pulse := {}
  tri : Triangle := {}
  noise : Noise := {}
  dmc : Dmc := {}
  fcMode : Bool := false
  fcInhibit : Bool := false
  frameIrq : Bool := false
  fcCycles : Nat := 0
  fcStep : Nat := 0
  apuCycle : Nat := 0
  sampleAcc : Nat := 0
  samples : List (BitVec 32) := []
  deriving DecidableEq, Repr

/-- Nametable mirroring (R160, R252). -/
inductive Mirroring where
  | horizontal
  | vertical
  deriving DecidableEq, Repr

/-- The MMC3's private state (R162). -/
structure Mmc3 where
  bankSelect : BitVec 3 := 0
  prgMode : Bool := false
  chrMode : Bool := false
  r0 : Byte := 0
  r1 : Byte := 0
  r2 : Byte := 0
  r3 : Byte := 0
  r4 : Byte := 0
  r5 : Byte := 0
  r6 : Byte := 0
  r7 : Byte := 0
  mirroring : Mirroring := .horizontal
  irqLatch : Byte := 0
  irqCounter : Byte := 0
  irqReload : Bool := false
  irqEnable : Bool := false
  irqPending : Bool := false
  a12Prev : Bool := false
  a12LowSince : Nat := 0
  deriving DecidableEq, Repr

/-- The cartridge (R160) and its mapper (R161, R162). `attached` is false when no cartridge is there (R281,
R1003). The defaults are the blank cartridge of log 2. -/
structure Cart where
  attached : Bool := true
  prgBanks : Nat := 1
  prgRom : Memory := []
  chrBanks : Nat := 0
  chr : Memory := []
  chrIsRam : Bool := true
  prgRam : Memory := []
  mirroring : Mirroring := .horizontal
  mapperId : Byte := 0
  battery : Bool := false
  mmc3 : Mmc3 := {}
  deriving DecidableEq, Repr

/-- The whole CORE (spec 10), and with it the parameters of its step. `settings` is the model's own field and no state of
the CORE (R170): it carries the arguments the step takes beside the state (log 6), and no step changes it. -/
structure State where
  cpu : Cpu
  bus : Bus
  ppu : Ppu
  apu : Apu
  cart : Cart
  settings : Config.Settings := {}
  deriving DecidableEq, Repr

/-- Why the machine stops with a fault. The CPU raises no synchronous exception (R700): no step answers one
of these, only the host's load and restore actions do. -/
inductive Fault where
  /-- Raised by `loadCartridge`: the header's magic does not match (R281). Safe: the spec's own error. -/
  | badMagic
  /-- Raised by `loadCartridge`: the file is shorter than its header says (R281). Safe: the spec's own error. -/
  | truncatedImage
  /-- Raised by `loadCartridge`: the mapper id is not in MAPPER_SET (R281). Safe: the spec's own error. -/
  | unsupportedMapper
  /-- Raised by `loadCartridge`: prg_banks = 0 (R281). Safe: the spec's own error. -/
  | noPrgBanks
  /-- Raised by `restoreState`: a failed deserialize, which leaves the state unchanged (R1033). Safe. -/
  | restoreFailed
  deriving DecidableEq, Repr

/-- Why a step or a host action has no successor. -/
inductive Refusal where
  /-- Raised by an arm of `exec` that has no meaning yet. Safe: nothing can be proved about such a step. -/
  | notModelled (mnemonic : String)
  /-- Raised by the meanings of the 20 opcodes the spec refuses (R310): `raise Refused(opcode)`. Safe. -/
  | opcode (op : Byte)
  /-- Raised by `step` in a state whose `refused` is set: no successor (R110, R400). Safe. -/
  | alreadyRefused
  /-- Raised by `step` and by `hostReset` when no cartridge is attached (R1003). Safe. -/
  | noCartridge
  deriving DecidableEq, Repr

/-- The framebuffer after the reset tick from an all-zero framebuffer: pixels (0..19, 0) hold the universal
background, palette entry 0 (R1001, R840); palette RAM lists nothing (log 1). -/
def resetFramebuffer : Framebuffer :=
  [(0, (List.range 20).map fun x => (x, (0xFF#8 ++ Config.ntscPalette 0 : BitVec 32)))]

/-- The machine right after reset (R112, R121, R130-R140, R156, R160, R162) of a CORE powered on with the
blank cartridge of log 2, MEM_INIT zero (log 1) and the default settings (log 6): the reset values, then the reset tick
of 7 CPU cycles (R1001). PC = Read16($FFFC) = $0000. Laws/Reset.lean proves that it is what `resetMachine` answers. -/
def State.reset : State where
  cpu := { sp := 0xFD, pc := 0x0000, flags := { i := true }, cycles := 7 }
  bus := {}
  ppu := { dot := 21, framebuffer := resetFramebuffer }
  apu :=
    { p1 := { seq := 4 }
      p2 := { seq := 4 }
      noise := { lfsr := 0x2000 }
      dmc := { timer := 421, bitsLeft := 7 }
      fcCycles := 7
      apuCycle := 7
      sampleAcc := 308700 }
  cart := {}
  settings := {}

end Sys2Proof.Machine
end

