-- ==== Sys2Proof/Machine/Memory.lean ====
section
/-! DEFINITION. Reading and writing the machine's memories (spec 10 R120, R137, R140, R160) in their canonical
form. Widths and address decoding are elsewhere; here an index is a plain natural number. -/

namespace Sys2Proof.Machine

/-- Put `v` under key `k` in a list of pairs with rising keys, replacing what stood there. -/
def assocPut {α : Type} (k : Nat) (v : α) : List (Nat × α) → List (Nat × α)
  | [] => [(k, v)]
  | (j, w) :: m =>
    if k < j then (k, v) :: (j, w) :: m
    else if k = j then (k, v) :: m
    else (j, w) :: assocPut k v m

/-- The value under key `k`, if there is one. -/
def assocGet {α : Type} (k : Nat) : List (Nat × α) → Option α
  | [] => none
  | (j, w) :: m => if k = j then some w else assocGet k m

/-- What an unlisted byte of every memory reads as. CHR-RAM is zero-filled by the loader (R160, R280); for the
memories whose power-on contents are MEM_INIT (R121, R137, R160) it is a DESIGN CHOICE, unsafe (log 1). -/
def Memory.unlisted : Byte := 0

/-- The byte at index `a`. -/
def Memory.get (m : Memory) (a : Nat) : Byte := (assocGet a m).getD Memory.unlisted

/-- The memory with the byte at index `a` replaced: writing what an unlisted index reads as removes the entry. -/
def Memory.set (m : Memory) (a : Nat) (v : Byte) : Memory :=
  if v = Memory.unlisted then m.filter (fun c => c.1 ≠ a) else assocPut a v m

/-- The canonical form: indexes strictly rising, no entry equal to what an unlisted index reads as. -/
abbrev Memory.wf (m : Memory) : Prop :=
  m.Pairwise (fun c d => c.1 < d.1) ∧ ∀ c ∈ m, c.2 ≠ Memory.unlisted

/-- Every listed index is below `size`. -/
abbrev Memory.below (m : Memory) (size : Nat) : Prop := ∀ c ∈ m, c.1 < size

/-- The memory that holds `bytes` from index `start` on, and nothing else. -/
def Memory.ofBytes (start : Nat) : List Byte → Memory
  | [] => []
  | b :: bs =>
    if b = Memory.unlisted then Memory.ofBytes (start + 1) bs
    else (start, b) :: Memory.ofBytes (start + 1) bs

/-- The pixel at column `x` of row `y`: `framebuffer[y*256 + x]` (R140). -/
def Framebuffer.get (f : Framebuffer) (y x : Nat) : BitVec 32 :=
  (assocGet x ((assocGet y f).getD [])).getD 0

/-- Store a pixel at column `x` of row `y` (R840). -/
def Framebuffer.set (f : Framebuffer) (y x : Nat) (p : BitVec 32) : Framebuffer :=
  assocPut y (assocPut x p ((assocGet y f).getD [])) f

end Sys2Proof.Machine
end

