-- ==== Sys2Proof/Machine/Mapper.lean ====
section
/-! DEFINITION. The cartridge and its mapper (spec 20 sections 7 to 10): NROM and MMC3 address translation, the
MMC3 registers, and its A12-clocked interrupt counter. -/

namespace Sys2Proof.Machine

/-- The MMC3 is the mapper of id 4; every other attached cartridge is an NROM (R260, log 12). -/
def Cart.isMmc3 (c : Cart) : Bool := c.mapperId == 4

/-- The size of PRG-ROM in bytes: prg_banks x 16384 (R160). -/
def Cart.prgSize (c : Cart) : Nat := c.prgBanks * 16384

/-- The size of CHR memory in bytes: chr_banks x 8192, or 8192 bytes of CHR-RAM (R160). -/
def Cart.chrSize (c : Cart) : Nat := if c.chrIsRam then 8192 else c.chrBanks * 8192

/-- `R[i]` (R162). -/
def Mmc3.reg (m : Mmc3) (i : BitVec 3) : Byte :=
  match i.toNat with
  | 0 => m.r0
  | 1 => m.r1
  | 2 => m.r2
  | 3 => m.r3
  | 4 => m.r4
  | 5 => m.r5
  | 6 => m.r6
  | _ => m.r7

/-- `R[i] <- v` (R285, bank data). -/
def Mmc3.setReg (m : Mmc3) (i : BitVec 3) (v : Byte) : Mmc3 :=
  match i.toNat with
  | 0 => { m with r0 := v }
  | 1 => { m with r1 := v }
  | 2 => { m with r2 := v }
  | 3 => { m with r3 := v }
  | 4 => { m with r4 := v }
  | 5 => { m with r5 := v }
  | 6 => { m with r6 := v }
  | _ => { m with r7 := v }

/-- The MMC3 register writes at $8000-$FFFF, selected by `addr & 0xE001` (R285). -/
def Mmc3.write (m : Mmc3) (a : Word) (v : Byte) : Mmc3 :=
  match (a &&& 0xE001).toNat with
  | 0x8000 => { m with bankSelect := v.setWidth 3, prgMode := bit v 6, chrMode := bit v 7 }
  | 0x8001 => m.setReg m.bankSelect v
  | 0xA000 => { m with mirroring := if bit v 0 then .horizontal else .vertical }
  | 0xA001 => m
  | 0xC000 => { m with irqLatch := v }
  | 0xC001 => { m with irqCounter := 0, irqReload := true }
  | 0xE000 => { m with irqEnable := false, irqPending := false }
  | 0xE001 => { m with irqEnable := true }
  | _ => m

/-- The 8 KiB PRG bank of the window `(addr - 0x8000) / 0x2000` of $8000-$FFFF, with `n8` banks (R286). -/
def Mmc3.prgBank (m : Mmc3) (n8 window : Nat) : Nat :=
  let b6 := (m.r6 &&& 0x3F).toNat % n8
  let b7 := (m.r7 &&& 0x3F).toNat % n8
  match window with
  | 0 => if m.prgMode then n8 - 2 else b6
  | 1 => b7
  | 2 => if m.prgMode then b6 else n8 - 2
  | _ => n8 - 1

/-- The 1 KiB CHR bank of the window `a / 0x400` of $0000-$1FFF, before the modulo (R287). -/
def Mmc3.chrBank (m : Mmc3) (window : Nat) : Nat :=
  let w := if m.chrMode then (window + 4) % 8 else window
  match w with
  | 0 => (m.r0 &&& 0xFE).toNat
  | 1 => (m.r0 &&& 0xFE).toNat + 1
  | 2 => (m.r1 &&& 0xFE).toNat
  | 3 => (m.r1 &&& 0xFE).toNat + 1
  | 4 => m.r2.toNat
  | 5 => m.r3.toNat
  | 6 => m.r4.toNat
  | _ => m.r5.toNat

/-- The index in PRG-ROM of a CPU address at $8000-$FFFF: NROM R270, MMC3 R286. -/
def Cart.prgIndex (c : Cart) (a : Word) : Nat :=
  let off := a.toNat - 0x8000
  if c.isMmc3 then c.mmc3.prgBank (c.prgSize / 8192) (off / 0x2000) * 8192 + off % 0x2000
  else off % c.prgSize

/-- The index in CHR memory of a PPU address at $0000-$1FFF: NROM R272, MMC3 R287. -/
def Cart.chrIndex (c : Cart) (a : PpuAddr) : Nat :=
  let n := a.toNat
  if c.isMmc3 then (c.mmc3.chrBank (n / 0x400) % (c.chrSize / 1024)) * 1024 + n % 0x400
  else n

/-- The mapper's CPU-read (R260): `none` where the mapper leaves the address unmapped (R273, R296). -/
def Cart.cpuRead (c : Cart) (a : Word) : Option Byte :=
  if a.toNat < 0x6000 then none
  else if a.toNat < 0x8000 then some (c.prgRam.get (a.toNat - 0x6000))
  else some (c.prgRom.get (c.prgIndex a))

/-- The mapper's CPU-write (R260): PRG-RAM (R271, R289), the MMC3 registers (R285), and no effect elsewhere:
PRG-ROM is read only (R211, R270). -/
def Cart.cpuWrite (c : Cart) (a : Word) (v : Byte) : Cart :=
  if a.toNat < 0x6000 then c
  else if a.toNat < 0x8000 then { c with prgRam := c.prgRam.set (a.toNat - 0x6000) v }
  else if c.isMmc3 then { c with mmc3 := c.mmc3.write a v }
  else c

/-- The mapper's PPU-read (R260, R272, R287). -/
def Cart.chrRead (c : Cart) (a : PpuAddr) : Byte := c.chr.get (c.chrIndex a)

/-- The mapper's PPU-write (R260): only CHR-RAM takes it (R211, R272, R287). -/
def Cart.chrWrite (c : Cart) (a : PpuAddr) (v : Byte) : Cart :=
  if c.chrIsRam then { c with chr := c.chr.set (c.chrIndex a) v } else c

/-- The nametable mirroring in force: the cartridge's, or the MMC3's override (R252, R288). -/
def Cart.nametableMirroring (c : Cart) : Mirroring := if c.isMmc3 then c.mmc3.mirroring else c.mirroring

/-- `ClockIrqCounter()` (R298). -/
def Mmc3.clockIrqCounter (m : Mmc3) : Mmc3 :=
  let reload := m.irqCounter == 0 || m.irqReload
  let counter := if reload then m.irqLatch else m.irqCounter - 1
  { m with
    irqCounter := counter
    irqReload := if reload then false else m.irqReload
    irqPending := m.irqPending || (counter == 0 && m.irqEnable) }

/-- How many dots A12 has been low at time `t`, modulo a frame of 89342 dots (R297). -/
def Mmc3.lowDots (m : Mmc3) (t : Nat) : Nat := (t + 89342 - m.a12LowSince % 89342) % 89342

/-- A12 edge detection on an access to `a` at time `t`, under A12_FILTER_DOTS = `filter` (R297). -/
def Mmc3.notify (m : Mmc3) (filter : Nat) (a : PpuAddr) (t : Nat) : Mmc3 :=
  let a12 := a.getLsbD 12
  let clocked :=
    if a12 && !m.a12Prev && decide (filter ≤ m.lowDots t) then m.clockIrqCounter else m
  { clocked with
    a12LowSince := if !a12 && m.a12Prev then t else m.a12LowSince
    a12Prev := a12 }

/-- `MapperNotify(a, t)` (R262): NROM ignores it. -/
def Cart.notify (c : Cart) (filter : Nat) (a : PpuAddr) (t : Nat) : Cart :=
  if c.isMmc3 then { c with mmc3 := c.mmc3.notify filter a t } else c

/-- `IrqQuery()` (R261). -/
def Cart.irqQuery (c : Cart) : Bool := c.isMmc3 && c.mmc3.irqPending

/-- `IrqClear()` (R261). -/
def Cart.irqClear (c : Cart) : Cart :=
  if c.isMmc3 then { c with mmc3 := { c.mmc3 with irqPending := false } } else c

/-- `MapperReset()` (R299): the MMC3's private state returns to its power-on value, its mirroring to the
header's; NROM has none. -/
def Cart.mapperReset (c : Cart) : Cart :=
  if c.isMmc3 then { c with mmc3 := { mirroring := c.mirroring } } else c

end Sys2Proof.Machine
end

