-- ==== Sys2Proof/Machine/Apu.lean ====
section
/-! DEFINITION. The APU (spec 62): channel timers, envelopes, sweep, length and linear counters, the DMC, the
frame counter, the registers, the mixer and the sample buffer. -/

namespace Sys2Proof.Machine

/-! ### Tables -/

/-- `DUTY[duty][seq]` (R903). -/
def dutyBit (duty : BitVec 2) (seq : BitVec 3) : Bool :=
  let row : Byte := match duty.toNat with
    | 0 => 0b00000010
    | 1 => 0b00000110
    | 2 => 0b00011110
    | _ => 0b11111001
  row.getLsbD seq.toNat

/-- `TRI_SEQ[seq]` (R906): 15 down to 0, then 0 up to 15. -/
def triSeq (seq : BitVec 5) : Nat := if seq.toNat < 16 then 15 - seq.toNat else seq.toNat - 16

/-- `NOISE_PERIOD` in APU cycles (R907). -/
def noisePeriods : List Nat := [2, 4, 8, 16, 32, 48, 64, 80, 101, 127, 190, 254, 381, 508, 1017, 2034]

/-- `NOISE_PERIOD[i]`. -/
def noisePeriod (i : BitVec 4) : Nat := noisePeriods.getD i.toNat 0

/-- `DMC_RATE` in CPU cycles (R910). -/
def dmcRates : List Nat := [428, 380, 340, 320, 286, 254, 226, 214, 190, 160, 142, 128, 106, 84, 72, 54]

/-- `DMC_RATE[i]`. -/
def dmcRate (i : BitVec 4) : Nat := dmcRates.getD i.toNat 0

/-- `LENGTH` (R956). -/
def lengthTable : List Byte :=
  [10, 254, 20, 2, 40, 4, 80, 6, 160, 8, 60, 10, 14, 12, 26, 14] ++
  [12, 16, 24, 18, 48, 20, 96, 22, 192, 24, 72, 26, 16, 28, 32, 30]

/-- `LENGTH[v >> 3]` for a written byte (R943, R947, R950). -/
def lengthLoad (v : Byte) : Byte := lengthTable.getD (v >>> 3).toNat 0

/-! ### Timers and sequencers -/

/-- `PulseTimer(pn)` (R902). -/
def Pulse.clockTimer (p : Pulse) : Pulse :=
  if p.timer = 0 then { p with timer := p.timerLoad, seq := p.seq + 1 } else { p with timer := p.timer - 1 }

/-- `TriangleTimer()` (R905). -/
def Triangle.clockTimer (t : Triangle) : Triangle :=
  if t.timer = 0 then
    { t with
      timer := t.timerLoad
      seq := if t.length ≠ 0 ∧ t.lin ≠ 0 then t.seq + 1 else t.seq }
  else { t with timer := t.timer - 1 }

/-- The LFSR feedback bit: bit 0 xor bit 6 or bit 1 (R907). -/
def Noise.feedback (n : Noise) : Bool :=
  n.lfsr.getLsbD 0 ^^ (if n.mode then n.lfsr.getLsbD 6 else n.lfsr.getLsbD 1)

/-- The LFSR shifted right with the feedback in bit 14 (R907). -/
def Noise.shiftLfsr (n : Noise) : BitVec 15 :=
  (n.lfsr >>> 1) ||| ((BitVec.ofBool n.feedback).setWidth 15 <<< 14)

/-- `NoiseTimer()` (R907). -/
def Noise.clockTimer (n : Noise) : Noise :=
  if n.timer = 0 then
    { n with timer := BitVec.ofNat 12 (noisePeriod n.periodIdx - 1), lfsr := n.shiftLfsr }
  else { n with timer := n.timer - 1 }

/-! ### The delta-modulation channel -/

/-- The output level after one sample bit (R911). -/
def Dmc.nextLevel (d : Dmc) : BitVec 7 :=
  if d.silence then d.level
  else if bit d.shifter 0 then (if d.level.toNat ≤ 125 then d.level + 2 else d.level)
  else (if 2 ≤ d.level.toNat then d.level - 2 else d.level)

/-- `DmcOutputClock()` (R911). -/
def Dmc.outputClock (d : Dmc) : Dmc :=
  let d1 := { d with level := d.nextLevel, shifter := d.shifter >>> 1, bitsLeft := d.bitsLeft - 1 }
  if d1.bitsLeft = 0 then
    if d1.bufferFull then
      { d1 with bitsLeft := 8, silence := false, shifter := d1.buffer, bufferFull := false }
    else { d1 with bitsLeft := 8, silence := true }
  else d1

/-- `DmcTimer()` (R910). -/
def Dmc.clockTimer (d : Dmc) : Dmc :=
  if d.timer = 0 then { d with timer := BitVec.ofNat 9 (dmcRate d.rateIdx - 1) }.outputClock
  else { d with timer := d.timer - 1 }

/-- `DmcRestart()` (R913). -/
def Dmc.restart (d : Dmc) : Dmc :=
  { d with
    curAddr := 0xC000 + d.sampleAddrReg.setWidth 16 * 64
    bytesLeft := d.sampleLenReg.setWidth 12 * 16 + 1 }

/-- The address after `curAddr`: $FFFF wraps to $8000 (R912). -/
def Dmc.nextAddr (d : Dmc) : Word := if d.curAddr = 0xFFFF then 0x8000 else d.curAddr + 1

/-- `DmcReader()` (R912), with the byte the mapper answers for `curAddr`. -/
def Dmc.read (d : Dmc) (b : Byte) : Dmc :=
  let d1 := { d with
    buffer := b, bufferFull := true, curAddr := d.nextAddr, bytesLeft := d.bytesLeft - 1 }
  if d1.bytesLeft = 0 ∧ d1.loop then d1.restart else d1

/-- Whether `DmcReader()` fetches a byte in this cycle (R912). -/
def Dmc.wantsByte (d : Dmc) : Bool := !d.bufferFull && d.bytesLeft != 0

/-! ### Envelope, length, linear counter, sweep -/

/-- `EnvelopeClock(ch)` (R920). -/
def Envelope.clock (e : Envelope) : Envelope :=
  if e.start then { e with start := false, decay := 15, div := e.vol }
  else if e.div = 0 then
    { e with
      div := e.vol
      decay := if e.decay ≠ 0 then e.decay - 1 else if e.halt then 15 else e.decay }
  else { e with div := e.div - 1 }

/-- `Volume(ch)` (R915). -/
def Envelope.volume (e : Envelope) : Nat := if e.constVol then e.vol.toNat else e.decay.toNat

/-- `LengthClock(ch)` (R922): the length after a half-frame clock under the halt flag `halt`. -/
def lengthClock (halt : Bool) (length : Byte) : Byte := if !halt && length != 0 then length - 1 else length

/-- `LinearClock()` (R924). -/
def Triangle.linearClock (t : Triangle) : Triangle :=
  { t with
    lin := if t.linReload then t.linLoad else if t.lin ≠ 0 then t.lin - 1 else t.lin
    linReload := if t.control then t.linReload else false }

/-- `SweepTarget(pn)` (R926); `first` is pulse 1, which negates by ones' complement. -/
def Pulse.sweepTarget (p : Pulse) (first : Bool) : Int :=
  let change : Int := (p.timerLoad >>> p.swShift.toNat).toNat
  let delta := if p.swNeg then (if first then -change - 1 else -change) else change
  (p.timerLoad.toNat : Int) + delta

/-- `SweepMute(pn)` (R926). -/
def Pulse.sweepMute (p : Pulse) (first : Bool) : Bool :=
  decide (p.timerLoad.toNat < 8) || decide (0x7FF < p.sweepTarget first)

/-- Whether a sweep clock commits the target (R926). -/
def Pulse.sweepCommits (p : Pulse) (first : Bool) : Bool :=
  p.swDiv == 0 && p.swEn && !p.sweepMute first && p.swShift != 0

/-- `SweepClock(pn)` (R926). -/
def Pulse.sweepClock (p : Pulse) (first : Bool) : Pulse :=
  let load := if p.sweepCommits first then BitVec.ofInt 11 (p.sweepTarget first) else p.timerLoad
  if p.swDiv = 0 ∨ p.swReload then
    { p with timerLoad := load, swDiv := p.swPeriod, swReload := false }
  else { p with timerLoad := load, swDiv := p.swDiv - 1 }

/-! ### Channel outputs and the mixer -/

/-- `PulseOut(pn)` (R915). -/
def Pulse.out (p : Pulse) (first : Bool) : Nat :=
  if p.length == 0 || p.sweepMute first || !dutyBit p.duty p.seq then 0 else p.env.volume

/-- `TriangleOut` (R915). -/
def Triangle.out (t : Triangle) : Nat := triSeq t.seq

/-- `NoiseOut` (R915). -/
def Noise.out (n : Noise) : Nat := if n.length == 0 || n.lfsr.getLsbD 0 then 0 else n.env.volume

/-- `DmcOut` (R915). -/
def Dmc.out (d : Dmc) : Nat := d.level.toNat

/-- The mixer formula over the rationals (R970): pulse outputs summed in `p`, then triangle, noise, DMC. -/
def mixExact (p tri noise dmc : Nat) : Rat :=
  let pulse : Rat := if p = 0 then 0 else (9588 / 100) / (8128 / (p : Rat) + 100)
  let s : Rat := (tri : Rat) / 8227 + (noise : Rat) / 12241 + (dmc : Rat) / 22638
  let tnd : Rat := if tri = 0 ∧ noise = 0 ∧ dmc = 0 then 0 else (15979 / 100) / (1 / s + 100)
  pulse + tnd

/-- `MIX()` (R970): the exact formula, rounded to a float-32 by the open rounding (log 5). -/
def Apu.mix (u : Apu) : BitVec 32 :=
  let o1 := u.p1.out true
  let o2 := u.p2.out false
  Config.mixRound o1 o2 u.tri.out u.noise.out u.dmc.out
    (mixExact (o1 + o2) u.tri.out u.noise.out u.dmc.out)

/-! ### The frame counter -/

/-- `QuarterClock()` (R930). -/
def Apu.quarterClock (u : Apu) : Apu :=
  { u with
    p1 := { u.p1 with env := u.p1.env.clock }
    p2 := { u.p2 with env := u.p2.env.clock }
    noise := { u.noise with env := u.noise.env.clock }
    tri := u.tri.linearClock }

/-- The length clock of a pulse (R922). -/
def Pulse.clockLength (p : Pulse) : Pulse := { p with length := lengthClock p.env.halt p.length }

/-- `HalfClock()` (R930): the length counters, then the sweeps. -/
def Apu.halfClock (u : Apu) : Apu :=
  { u with
    p1 := u.p1.clockLength.sweepClock true
    p2 := u.p2.clockLength.sweepClock false
    tri := { u.tri with length := lengthClock u.tri.control u.tri.length }
    noise := { u.noise with length := lengthClock u.noise.env.halt u.noise.length } }

/-- `FrameStep(s)` (R930). -/
def Apu.frameStep (u : Apu) (s : Nat) : Apu :=
  if u.fcMode then
    let u1 := if s ≠ 3 then u.quarterClock else u
    if s = 1 ∨ s = 4 then u1.halfClock else u1
  else
    let u1 := u.quarterClock
    let u2 := if s = 1 ∨ s = 3 then u1.halfClock else u1
    if s = 3 ∧ !u.fcInhibit then { u2 with frameIrq := true } else u2

/-- `FrameCounterCycle()` (R930). -/
def Apu.frameCounterCycle (u : Apu) : Apu :=
  if u.fcCycles + 1 = 7457 then
    let u1 := u.frameStep u.fcStep
    { u1 with fcCycles := 0, fcStep := (u.fcStep + 1) % (if u.fcMode then 5 else 4) }
  else { u with fcCycles := u.fcCycles + 1 }

/-! ### The APU cycle -/

/-- `SampleCycle()` (R972): a sample every 1789773 / 44100 CPU cycles, dropped while 1024 are held. -/
def Apu.sampleCycle (u : Apu) : Apu :=
  let acc := u.sampleAcc + 44100
  if 1789773 ≤ acc then
    { u with
      sampleAcc := acc - 1789773
      samples := if u.samples.length < 1024 then u.samples ++ [u.mix] else u.samples }
  else { u with sampleAcc := acc }

/-- The pulse and noise timers, which tick at every even APU cycle (R900). -/
def Apu.evenTimers (u : Apu) : Apu :=
  if u.apuCycle % 2 = 0 then
    { u with p1 := u.p1.clockTimer, p2 := u.p2.clockTimer, noise := u.noise.clockTimer }
  else u

/-- `ApuTick()` after the DMC's reader: the even timers, the frame counter, the sample, the cycle count (R900). -/
def Apu.finishCycle (u : Apu) : Apu :=
  let u1 := u.evenTimers.frameCounterCycle.sampleCycle
  { u1 with apuCycle := u1.apuCycle + 1 }

/-- The timers that run every CPU cycle: triangle and DMC (R900). -/
def Apu.everyTimers (u : Apu) : Apu := { u with tri := u.tri.clockTimer, dmc := u.dmc.clockTimer }

/-- `ApuTick()` (R900) on the machine. The DMC's reader goes straight to the mapper (R912); where the mapper
leaves the address unmapped, which no address of $8000-$FFFF is, the byte is a draw (log 10). -/
def State.apuTick (s : State) : State :=
  let u := s.apu.everyTimers
  if u.dmc.wantsByte then
    match s.cart.cpuRead u.dmc.curAddr with
    | some b => { s with apu := { u with dmc := u.dmc.read b }.finishCycle }
    | none =>
      { s with
        apu := { u with dmc := u.dmc.read (Config.openBusValue s.bus.draws) }.finishCycle
        bus := { s.bus with draws := s.bus.draws + 1 } }
  else { s with apu := u.finishCycle }

/-! ### Registers (62 section 6) -/

/-- $4000 / $4004 (R940). -/
def Pulse.writeControl (p : Pulse) (v : Byte) : Pulse :=
  { p with
    duty := v.extractLsb' 6 2
    env := { p.env with halt := bit v 5, constVol := bit v 4, vol := v.setWidth 4 } }

/-- $4001 / $4005 (R941). -/
def Pulse.writeSweep (p : Pulse) (v : Byte) : Pulse :=
  { p with
    swEn := bit v 7
    swPeriod := v.extractLsb' 4 3
    swNeg := bit v 3
    swShift := v.setWidth 3
    swReload := true }

/-- The low byte of a period replaced (R942, R946). -/
def periodLow (load : BitVec 11) (v : Byte) : BitVec 11 := (load &&& 0x700) ||| v.setWidth 11

/-- The high three bits of a period replaced (R943, R947). -/
def periodHigh (load : BitVec 11) (v : Byte) : BitVec 11 := (load &&& 0x0FF) ||| ((v &&& 7).setWidth 11 <<< 8)

/-- $4002 / $4006 (R942). -/
def Pulse.writeTimerLow (p : Pulse) (v : Byte) : Pulse := { p with timerLoad := periodLow p.timerLoad v }

/-- $4003 / $4007 (R943). -/
def Pulse.writeTimerHigh (p : Pulse) (v : Byte) : Pulse :=
  { p with
    timerLoad := periodHigh p.timerLoad v
    length := if p.enabled then lengthLoad v else p.length
    seq := 0
    env := { p.env with start := true } }

/-- $4008 (R944). -/
def Triangle.writeLinear (t : Triangle) (v : Byte) : Triangle :=
  { t with control := bit v 7, linLoad := v.setWidth 7 }

/-- $400A (R946). -/
def Triangle.writeTimerLow (t : Triangle) (v : Byte) : Triangle :=
  { t with timerLoad := periodLow t.timerLoad v }

/-- $400B (R947). -/
def Triangle.writeTimerHigh (t : Triangle) (v : Byte) : Triangle :=
  { t with
    timerLoad := periodHigh t.timerLoad v
    length := if t.enabled then lengthLoad v else t.length
    linReload := true }

/-- $400C (R948). -/
def Noise.writeControl (n : Noise) (v : Byte) : Noise :=
  { n with env := { n.env with halt := bit v 5, constVol := bit v 4, vol := v.setWidth 4 } }

/-- $400E (R949). -/
def Noise.writePeriod (n : Noise) (v : Byte) : Noise := { n with mode := bit v 7, periodIdx := v.setWidth 4 }

/-- $400F (R950). -/
def Noise.writeLength (n : Noise) (v : Byte) : Noise :=
  { n with
    length := if n.enabled then lengthLoad v else n.length
    env := { n.env with start := true } }

/-- $4010 (R951). -/
def Dmc.writeControl (d : Dmc) (v : Byte) : Dmc :=
  { d with irqEn := bit v 7, loop := bit v 6, rateIdx := v.setWidth 4 }

/-- A channel's length after a $4015 write of its bit (R955): disabling zeroes it. -/
def gatedLength (on : Bool) (length : Byte) : Byte := if on then length else 0

/-- The DMC's part of a $4015 write (R955). -/
def Dmc.writeEnable (d : Dmc) (on : Bool) : Dmc :=
  let d1 := { d with enabled := on }
  if !on then { d1 with bytesLeft := 0 }
  else if d1.bytesLeft = 0 then d1.restart
  else d1

/-- $4015 write (R955). -/
def Apu.writeEnables (u : Apu) (v : Byte) : Apu :=
  { u with
    p1 := { u.p1 with enabled := bit v 0, length := gatedLength (bit v 0) u.p1.length }
    p2 := { u.p2 with enabled := bit v 1, length := gatedLength (bit v 1) u.p2.length }
    tri := { u.tri with enabled := bit v 2, length := gatedLength (bit v 2) u.tri.length }
    noise := { u.noise with enabled := bit v 3, length := gatedLength (bit v 3) u.noise.length }
    dmc := u.dmc.writeEnable (bit v 4) }

/-- $4017 write (R958). -/
def Apu.writeFrameCounter (u : Apu) (v : Byte) : Apu :=
  let u1 := { u with
    fcMode := bit v 7
    fcInhibit := bit v 6
    frameIrq := if bit v 6 then false else u.frameIrq
    fcCycles := 0
    fcStep := 0 }
  if bit v 7 then u1.quarterClock.halfClock else u1

/-- A write of an APU register at $4000 + `r` (R201, R940-R958). $4009, $400D (R945) and every other offset have
no effect. -/
def Apu.write (u : Apu) (r : Nat) (v : Byte) : Apu :=
  match r with
  | 0x00 => { u with p1 := u.p1.writeControl v }
  | 0x01 => { u with p1 := u.p1.writeSweep v }
  | 0x02 => { u with p1 := u.p1.writeTimerLow v }
  | 0x03 => { u with p1 := u.p1.writeTimerHigh v }
  | 0x04 => { u with p2 := u.p2.writeControl v }
  | 0x05 => { u with p2 := u.p2.writeSweep v }
  | 0x06 => { u with p2 := u.p2.writeTimerLow v }
  | 0x07 => { u with p2 := u.p2.writeTimerHigh v }
  | 0x08 => { u with tri := u.tri.writeLinear v }
  | 0x0A => { u with tri := u.tri.writeTimerLow v }
  | 0x0B => { u with tri := u.tri.writeTimerHigh v }
  | 0x0C => { u with noise := u.noise.writeControl v }
  | 0x0E => { u with noise := u.noise.writePeriod v }
  | 0x0F => { u with noise := u.noise.writeLength v }
  | 0x10 => { u with dmc := u.dmc.writeControl v }
  | 0x11 => { u with dmc := { u.dmc with level := v.setWidth 7 } }
  | 0x12 => { u with dmc := { u.dmc with sampleAddrReg := v } }
  | 0x13 => { u with dmc := { u.dmc with sampleLenReg := v } }
  | 0x15 => u.writeEnables v
  | 0x17 => u.writeFrameCounter v
  | _ => u

/-- The byte a $4015 read returns (R960). -/
def Apu.statusByte (u : Apu) : Byte :=
  bitByte (u.p1.length != 0) ||| (bitByte (u.p2.length != 0) <<< 1) ||| (bitByte (u.tri.length != 0) <<< 2) |||
    (bitByte (u.noise.length != 0) <<< 3) ||| (bitByte (u.dmc.bytesLeft != 0) <<< 4) |||
    (bitByte u.frameIrq <<< 6)

/-- $4015 read (R960): the frame IRQ flag is cleared. -/
def Apu.statusRead (u : Apu) : Byte × Apu := (u.statusByte, { u with frameIrq := false })

end Sys2Proof.Machine
end

