-- ==== Sys2Proof/Machine/PpuMemory.lean ====
section
/-! DEFINITION. The PPU's internal address space (spec 20 section 6) and the fields of its registers (spec 10
R131-R135). -/

namespace Sys2Proof.Machine

/-- The part of the machine the PPU's memory accesses reach: the PPU's own memories and the cartridge, and the settings
its mapper works under. -/
structure Video where
  ppu : Ppu
  cart : Cart
  settings : Config.Settings
  deriving DecidableEq, Repr

/-- PPUCTRL bit 3: the pattern table of 8x8 sprites (R131). -/
def Ppu.spriteTable (p : Ppu) : PpuAddr := if bit p.ctrl 3 then 0x1000 else 0

/-- PPUCTRL bit 4: the background pattern table (R131). -/
def Ppu.backgroundTable (p : Ppu) : PpuAddr := if bit p.ctrl 4 then 0x1000 else 0

/-- PPUCTRL bit 5: the sprite height (R131). -/
def Ppu.spriteHeight (p : Ppu) : Nat := if bit p.ctrl 5 then 16 else 8

/-- PPUCTRL bit 7: NMI output enable (R131). -/
def Ppu.nmiOutput (p : Ppu) : Bool := bit p.ctrl 7

/-- `rendering_enabled = mask[3] | mask[4]` (R132). -/
def Ppu.renderingEnabled (p : Ppu) : Bool := bit p.mask 3 || bit p.mask 4

/-- PPUSTATUS: VBlank, sprite-0 hit and overflow in bits 7, 6, 5 (R133). -/
def Ppu.status (p : Ppu) : Byte :=
  (bitByte p.vblank <<< 7) ||| (bitByte p.spriteZeroHit <<< 6) ||| (bitByte p.overflow <<< 5)

/-- `fineY(v) = v[14:12]`. -/
def fineY (v : Loopy) : BitVec 3 := v.extractLsb' 12 3

/-- `coarseY(v) = v[9:5]`. -/
def coarseY (v : Loopy) : BitVec 5 := v.extractLsb' 5 5

/-- `coarseX(v) = v[4:0]`. -/
def coarseX (v : Loopy) : BitVec 5 := v.extractLsb' 0 5

/-- The index in nametable RAM of an address in $2000-$3EFF (R252). -/
def nametableIndex (m : Mirroring) (a : PpuAddr) : Nat :=
  let n := (a.toNat - 0x2000) % 0x1000
  let table := n / 0x400
  let bank := match m with
    | .horizontal => table / 2
    | .vertical => table % 2
  bank * 0x400 + n % 0x400

/-- The index in palette RAM of an address in $3F00-$3FFF (R253). -/
def paletteIndex (a : PpuAddr) : Nat :=
  let i := a.toNat % 0x20
  if i = 0x10 ∨ i = 0x14 ∨ i = 0x18 ∨ i = 0x1C then i - 0x10 else i

/-- The mapper-notify counter `scanline * 341 + dot` (R262). -/
def Ppu.notifyTime (p : Ppu) : Nat := p.scanline * 341 + p.dot

/-- The byte at an address of the PPU's space, without the notification (R250). -/
def Video.peek (b : Video) (a : PpuAddr) : Byte :=
  if a.toNat < 0x2000 then b.cart.chrRead a
  else if a.toNat < 0x3F00 then b.ppu.ntRam.get (nametableIndex b.cart.nametableMirroring a)
  else b.ppu.palette.get (paletteIndex a)

/-- Every access first calls `MapperNotify` (R250, R262). -/
def Video.notify (b : Video) (a : PpuAddr) : Video :=
  { b with cart := b.cart.notify b.settings.a12FilterDots a b.ppu.notifyTime }

/-- `PpuRead(a)` (R250). -/
def Video.read (b : Video) (a : PpuAddr) : Byte × Video :=
  let b' := b.notify a
  (b'.peek a, b')

/-- `PpuWrite(a, v)` (R250). -/
def Video.write (b : Video) (a : PpuAddr) (v : Byte) : Video :=
  let b' := b.notify a
  if a.toNat < 0x2000 then { b' with cart := b'.cart.chrWrite a v }
  else if a.toNat < 0x3F00 then
    { b' with ppu := { b'.ppu with
        ntRam := b'.ppu.ntRam.set (nametableIndex b'.cart.nametableMirroring a) v } }
  else { b' with ppu := { b'.ppu with palette := b'.ppu.palette.set (paletteIndex a) v } }

/-- `IncrementV()` (R794). -/
def Ppu.incrementV (p : Ppu) : Ppu := { p with v := p.v + (if bit p.ctrl 2 then 32 else 1) }

/-- A DATA write (R791). -/
def Video.dataWrite (b : Video) (v : Byte) : Video :=
  let b' := b.write (b.ppu.v.setWidth 14) v
  { b' with ppu := b'.ppu.incrementV }

/-- A DATA read (R792): buffered below $3F00, immediate in palette RAM with the buffer refilled from the
nametable byte underneath. -/
def Video.dataRead (b : Video) : Byte × Video :=
  let a : PpuAddr := b.ppu.v.setWidth 14
  if a.toNat < 0x3F00 then
    let r := b.read a
    (b.ppu.readBuffer, { r.2 with ppu := { r.2.ppu with readBuffer := r.1 }.incrementV })
  else
    let r := b.read a
    let u := r.2.read (a - 0x1000)
    (r.1, { u.2 with ppu := { u.2.ppu with readBuffer := u.1 }.incrementV })

/-- A STATUS read (R787): VBlank and the write toggle are cleared. -/
def Ppu.statusRead (p : Ppu) : Byte × Ppu :=
  ((p.status &&& 0xE0) ||| (p.readBuffer &&& 0x1F), { p with vblank := false, w := false })

/-- An OAMDATA write (R789). -/
def Ppu.oamDataWrite (p : Ppu) (v : Byte) : Ppu :=
  { p with oam := p.oam.set p.oamAddr.toNat v, oamAddr := p.oamAddr + 1 }

/-- A CTRL write (R782), but for the NMI it may raise. -/
def Ppu.ctrlWrite (p : Ppu) (v : Byte) : Ppu :=
  { p with
    ctrl := v
    t := (p.t &&& ~~~0x0C00#15) ||| ((v &&& 0x03).setWidth 15 <<< 10) }

/-- Whether a CTRL write of `v` raises an NMI (R782): NMI output becomes 1 while VBlank is set. -/
def Ppu.ctrlWriteRaisesNmi (p : Ppu) (v : Byte) : Bool := !p.nmiOutput && bit v 7 && p.vblank

/-- A SCROLL write (R790). -/
def Ppu.scrollWrite (p : Ppu) (v : Byte) : Ppu :=
  if p.w then
    { p with
      t := (p.t &&& ~~~0x73E0#15) ||| ((v >>> 3).setWidth 15 <<< 5) ||| ((v &&& 7).setWidth 15 <<< 12)
      w := false }
  else
    { p with
      t := (p.t &&& ~~~0x001F#15) ||| (v >>> 3).setWidth 15
      fineX := v.setWidth 3
      w := true }

/-- An ADDR write (R793). -/
def Ppu.addrWrite (p : Ppu) (v : Byte) : Ppu :=
  if p.w then
    let t := (p.t &&& 0x7F00) ||| v.setWidth 15
    { p with t := t, v := t, w := false }
  else { p with t := (p.t &&& 0x00FF) ||| ((v &&& 0x3F).setWidth 15 <<< 8), w := true }

end Sys2Proof.Machine
end

