-- ==== Sys2Proof/Machine/Ppu.lean ====
section
/-! DEFINITION. One dot of the PPU (spec 61 R750): the background fetch machine and scroll automaton, sprite
evaluation and fetch, the pixel compositor, VBlank and the frame boundary. -/

namespace Sys2Proof.Machine

/-! ### Background (61 section 3) -/

/-- The dots of a background fetch: F = 1..256 and 321..336 (R800). -/
def fetchDot (dot : Nat) : Bool := decide (1 ≤ dot ∧ dot ≤ 256) || decide (321 ≤ dot ∧ dot ≤ 336)

/-- The nametable fetch address (R801). -/
def nametableAddress (v : Loopy) : PpuAddr := 0x2000 ||| (v &&& 0x0FFF).setWidth 14

/-- The attribute fetch address (R802). -/
def attributeAddress (v : Loopy) : PpuAddr :=
  (0x23C0 ||| (v &&& 0x0C00) ||| ((v >>> 4) &&& 0x38) ||| ((v >>> 2) &&& 0x07)).setWidth 14

/-- The two bits of an attribute byte for the quadrant of `v` (R802; 90 C1: v bit 6, not v bit 5). -/
def attributeBits (b : Byte) (v : Loopy) : BitVec 2 :=
  (b >>> (((v >>> 4) &&& 0x04) ||| (v &&& 0x02)).toNat).setWidth 2

/-- The pattern fetch address (R803). -/
def Ppu.patternAddress (p : Ppu) (nt : Byte) (v : Loopy) : PpuAddr :=
  p.backgroundTable + nt.setWidth 14 * 16 + (fineY v).setWidth 14

/-- `IncrementCoarseX()` (R804). -/
def incrementCoarseX (v : Loopy) : Loopy :=
  if v &&& 0x001F = 31 then (v &&& ~~~0x001F#15) ^^^ 0x0400 else v + 1

/-- `IncrementY()` (R805). -/
def incrementY (v : Loopy) : Loopy :=
  if fineY v < 7 then v + 0x1000
  else
    let v := v &&& ~~~0x7000#15
    let y := coarseY v
    let v' := if y = 29 then v ^^^ 0x0800 else v
    let y' := if y = 29 ∨ y = 31 then 0 else y + 1
    (v' &&& ~~~0x03E0#15) ||| (y'.setWidth 15 <<< 5)

/-- `ShiftBackground()` (R806). -/
def Ppu.shiftBackground (p : Ppu) : Ppu :=
  { p with
    shLo := p.shLo <<< 1
    shHi := p.shHi <<< 1
    shAtLo := (p.shAtLo <<< 1) ||| bitByte p.atLatchLo
    shAtHi := (p.shAtHi <<< 1) ||| bitByte p.atLatchHi }

/-- `ReloadBackground()` (R807). -/
def Ppu.reloadBackground (p : Ppu) : Ppu :=
  { p with
    shLo := (p.shLo &&& 0xFF00) ||| p.bgLo.setWidth 16
    shHi := (p.shHi &&& 0xFF00) ||| p.bgHi.setWidth 16
    atLatchLo := p.bgAt.getLsbD 0
    atLatchHi := p.bgAt.getLsbD 1 }

/-- The fetch step of a background dot, by its place `k` in its group of eight (R800). -/
def Video.backgroundFetch (b : Video) (k : Nat) : Video :=
  match k with
  | 0 =>
    let r := b.read (nametableAddress b.ppu.v)
    { r.2 with ppu := { r.2.ppu with bgNt := r.1 } }
  | 2 =>
    let r := b.read (attributeAddress b.ppu.v)
    { r.2 with ppu := { r.2.ppu with bgAt := attributeBits r.1 b.ppu.v } }
  | 4 =>
    let r := b.read (b.ppu.patternAddress b.ppu.bgNt b.ppu.v)
    { r.2 with ppu := { r.2.ppu with bgLo := r.1 } }
  | 6 =>
    let r := b.read (b.ppu.patternAddress b.ppu.bgNt b.ppu.v + 8)
    { r.2 with ppu := { r.2.ppu with bgHi := r.1 } }
  | 7 =>
    let p := b.ppu.reloadBackground
    { b with ppu := { p with v := incrementCoarseX p.v } }
  | _ => b

/-- The scroll updates of a background dot, in the order of R800: dot 256, dot 257, and the vertical copy of the
pre-render line. -/
def Ppu.scrollUpdate (p : Ppu) : Ppu :=
  let v1 := if p.dot = 256 then incrementY p.v else p.v
  let v2 := if p.dot = 257 then (v1 &&& ~~~0x041F#15) ||| (p.t &&& 0x041F) else v1
  let v3 := if p.scanline = 261 ∧ 280 ≤ p.dot ∧ p.dot ≤ 304
    then (v2 &&& ~~~0x7BE0#15) ||| (p.t &&& 0x7BE0) else v2
  { p with v := v3 }

/-- `BackgroundDot()` (R800). -/
def Video.backgroundDot (b : Video) : Video :=
  let dot := b.ppu.dot
  let b1 :=
    if fetchDot dot then { b with ppu := b.ppu.shiftBackground }.backgroundFetch ((dot - 1) % 8) else b
  let b2 := { b1 with ppu := b1.ppu.scrollUpdate }
  if dot = 337 ∨ dot = 339 then (b2.read (nametableAddress b2.ppu.v)).2 else b2

/-! ### Sprites (61 section 4) -/

/-- `SpriteAddress(tile, attr, row, h)` (R822): the flip comes before the choice of the bottom tile. -/
def Ppu.spriteAddress (p : Ppu) (tile attr : Byte) (row h : Nat) : PpuAddr :=
  let r := if bit attr 7 then h - 1 - row else row
  if h = 8 then p.spriteTable + tile.setWidth 14 * 16 + BitVec.ofNat 14 r
  else
    let bank : PpuAddr := if bit tile 0 then 0x1000 else 0
    let tn : PpuAddr := (tile &&& 0xFE).setWidth 14
    if 8 ≤ r then bank + (tn + 1) * 16 + BitVec.ofNat 14 (r - 8)
    else bank + tn * 16 + BitVec.ofNat 14 r

/-- Byte `j` of OAM entry `i` (R137). -/
def Ppu.oamByte (p : Ppu) (i j : Nat) : Byte := p.oam.get (4 * i + j)

/-- Whether OAM entry `i` covers line `line`: `0 <= line - y < h` (R821). -/
def Ppu.spriteInRange (p : Ppu) (line i : Nat) : Bool :=
  decide ((p.oamByte i 0).toNat ≤ line ∧ line < (p.oamByte i 0).toNat + p.spriteHeight)

/-- The OAM entries that cover `line`, in OAM order (R821). -/
def Ppu.spriteCandidates (p : Ppu) (line : Nat) : List Nat := (List.range 64).filter (p.spriteInRange line)

/-- The slot an evaluated OAM entry fills (R821): its pattern bytes are fetched later. -/
def Ppu.evaluatedSlot (p : Ppu) (line i : Nat) (old : SpriteSlot) : SpriteSlot :=
  { old with
    idx := BitVec.ofNat 6 i
    attr := p.oamByte i 2
    x := p.oamByte i 3
    addr := p.spriteAddress (p.oamByte i 1) (p.oamByte i 2) (line - (p.oamByte i 0).toNat) p.spriteHeight }

/-- Fill the slots from the selected OAM entries; the slots beyond them keep what they held (R821). -/
def Ppu.fillSlots (p : Ppu) (line : Nat) : List Nat → List SpriteSlot → List SpriteSlot
  | i :: is, s :: ss => p.evaluatedSlot line i s :: p.fillSlots line is ss
  | _, ss => ss

/-- The bytes of secondary OAM after an evaluation: the selected entries, then 0xFF (R821). -/
def Ppu.secondaryOam (p : Ppu) (selected : List Nat) : List Byte :=
  let bytes := selected.flatMap fun i => [p.oamByte i 0, p.oamByte i 1, p.oamByte i 2, p.oamByte i 3]
  bytes ++ List.replicate (32 - bytes.length) 0xFF

/-- `EvaluateSprites(N)` (R821): the first eight entries in range are selected; a ninth sets the overflow flag. -/
def Ppu.evaluateSprites (p : Ppu) (line : Nat) : Ppu :=
  let found := p.spriteCandidates line
  let selected := found.take 8
  { p with
    overflow := p.overflow || decide (8 < found.length)
    sprCount := selected.length
    slots := p.fillSlots line selected p.slots
    oam2 := Memory.ofBytes 0 (p.secondaryOam selected) }

/-- The dummy fetch address of an empty slot: tile $FF, row 0 (R823). DESIGN CHOICE (log 21): PPUCTRL bits 3 and 5 are
those of the moment of the fetch, not of the last evaluation (R821, R1013). -/
def Ppu.emptySlotAddress (p : Ppu) : PpuAddr :=
  if p.spriteHeight = 8 then p.spriteTable + 0xFF0 else 0x1000 + 0xFE0

/-- Slot `i`; there are eight (R139). -/
def Ppu.slot (p : Ppu) (i : Nat) : SpriteSlot := p.slots.getD i {}

/-- A fetched sprite byte, bit-reversed when the slot is flipped horizontally (R823). -/
def flipped (attr : Byte) (v : Byte) : Byte := if bit attr 6 then reverseByte v else v

/-- `FetchSpriteLo(i)` (R823). -/
def Video.fetchSpriteLo (b : Video) (i : Nat) : Video :=
  let s := b.ppu.slot i
  let r := b.read (if i < b.ppu.sprCount then s.addr else b.ppu.emptySlotAddress)
  let lo := if i < b.ppu.sprCount then flipped s.attr r.1 else 0
  { r.2 with ppu := { r.2.ppu with slots := r.2.ppu.slots.set i { s with lo := lo } } }

/-- `FetchSpriteHi(i)` (R823). -/
def Video.fetchSpriteHi (b : Video) (i : Nat) : Video :=
  let s := b.ppu.slot i
  let r := b.read ((if i < b.ppu.sprCount then s.addr else b.ppu.emptySlotAddress) + 8)
  let hi := if i < b.ppu.sprCount then flipped s.attr r.1 else 0
  { r.2 with ppu := { r.2.ppu with slots := r.2.ppu.slots.set i { s with hi := hi } } }

/-- The fetch of a sprite dot, by its place `j` in its group of eight (R820). -/
def Video.spriteFetch (b : Video) (i j : Nat) : Video :=
  match j with
  | 0 => (b.read (nametableAddress b.ppu.v)).2
  | 2 => (b.read (nametableAddress b.ppu.v)).2
  | 4 => b.fetchSpriteLo i
  | 6 => b.fetchSpriteHi i
  | _ => b

/-- `SpriteDot()` (R820). -/
def Video.spriteDot (b : Video) : Video :=
  let dot := b.ppu.dot
  let b1 :=
    if dot = 257 ∧ b.ppu.scanline ≤ 239 then { b with ppu := b.ppu.evaluateSprites b.ppu.scanline }
    else if dot = 257 ∧ b.ppu.scanline = 261 then { b with ppu := { b.ppu with sprCount := 0 } }
    else b
  if 257 ≤ dot ∧ dot ≤ 320 then b1.spriteFetch ((dot - 257) / 8) ((dot - 257) % 8) else b1

/-! ### The compositor (61 section 5) -/

/-- A pixel before its colour is looked up: palette and colour index; colour 0 is transparent (R840). -/
structure Pixel where
  color : BitVec 2 := 0
  palette : BitVec 3 := 0
  deriving DecidableEq, Repr

/-- The background pixel of screen column `x` (R808, R840 step 1). -/
def Ppu.backgroundPixel (p : Ppu) (x : Nat) : Pixel :=
  if bit p.mask 3 && (bit p.mask 1 || decide (8 ≤ x)) then
    let i := 15 - p.fineX.toNat
    let j := 7 - p.fineX.toNat
    { color := BitVec.ofBool (p.shHi.getLsbD i) ++ BitVec.ofBool (p.shLo.getLsbD i)
      palette := 0#1 ++ (BitVec.ofBool (p.shAtHi.getLsbD j) ++ BitVec.ofBool (p.shAtLo.getLsbD j)) }
  else {}

/-- The colour of a slot at screen column `x`: 0 outside its eight columns (R840 step 2). -/
def SpriteSlot.color (s : SpriteSlot) (x : Nat) : BitVec 2 :=
  if s.x.toNat ≤ x ∧ x ≤ s.x.toNat + 7 then
    let i := 7 - (x - s.x.toNat)
    BitVec.ofBool (bit s.hi i) ++ BitVec.ofBool (bit s.lo i)
  else 0

/-- The first of the active slots with a nonzero colour at column `x` (R840 step 2). -/
def Ppu.spriteAt (p : Ppu) (x : Nat) : Option SpriteSlot :=
  if bit p.mask 4 && (bit p.mask 2 || decide (8 ≤ x)) then
    (p.slots.take p.sprCount).find? fun s => s.color x != 0
  else none

/-- The pixel a slot shows at column `x`: palette `(attr & 3) + 4` (R840 step 2). -/
def SpriteSlot.pixel (s : SpriteSlot) (x : Nat) : Pixel :=
  { color := s.color x, palette := 1#1 ++ s.attr.extractLsb' 0 2 }

/-- Whether the compositor sets sprite-0 hit at column `x` (R840 step 3, R841). -/
def Ppu.spriteZeroAt (p : Ppu) (x : Nat) : Bool :=
  match p.spriteAt x with
  | some s => (p.backgroundPixel x).color != 0 && s.idx == 0 && decide (x < 255)
  | none => false

/-- The pixel chosen from background and sprite (R840 step 3): attribute bit 5 puts the sprite behind. -/
def Ppu.chosenPixel (p : Ppu) (x : Nat) : Pixel :=
  let bg := p.backgroundPixel x
  match p.spriteAt x with
  | some s => if bg.color = 0 ∨ !bit s.attr 5 then s.pixel x else bg
  | none => if bg.color = 0 then {} else bg

/-- The 6-bit colour of a pixel, from palette RAM directly (R840 step 4). -/
def Ppu.colorOf (p : Ppu) (q : Pixel) : BitVec 6 :=
  (p.palette.get (paletteIndex (0x3F00 ||| (q.palette ++ q.color).setWidth 14))).setWidth 6

/-- `ComposePixel(x, y)` (R840). -/
def Ppu.composePixel (p : Ppu) (x y : Nat) : Ppu :=
  { p with
    spriteZeroHit := p.spriteZeroHit || p.spriteZeroAt x
    framebuffer := p.framebuffer.set y x (0xFF#8 ++ Config.ntscPalette (p.colorOf (p.chosenPixel x))) }

/-! ### The dot (61 R750, section 6) -/

/-- `Advance()` (R865). The dot (261, 340) is skipped on odd frames with rendering enabled. -/
def Ppu.advance (p : Ppu) : Ppu :=
  let skip := p.scanline = 261 ∧ p.dot = 339 ∧ p.oddFrame ∧ p.renderingEnabled
  let dot := (if skip then 340 else p.dot) + 1
  if dot ≤ 340 then { p with dot := dot }
  else if p.scanline + 1 ≤ 261 then { p with dot := 0, scanline := p.scanline + 1 }
  else
    { p with
      dot := 0
      scanline := 0
      frame := p.frame + 1
      frameReady := true
      oddFrame := !p.oddFrame }

/-- Whether this dot sets the VBlank flag: (241, 1) (R860). -/
def Ppu.startsVBlank (p : Ppu) : Bool := decide (p.scanline = 241 ∧ p.dot = 1)

/-- The status flags of a dot: VBlank is set at (241, 1) (R860); all three are cleared at (261, 1) (R861). -/
def Ppu.updateStatus (p : Ppu) : Ppu :=
  if p.startsVBlank then { p with vblank := true }
  else if p.scanline = 261 ∧ p.dot = 1 then
    { p with vblank := false, spriteZeroHit := false, overflow := false }
  else p

/-- The pixel of a dot: dots 1..256 of the visible lines (R750). -/
def Ppu.pixelStep (p : Ppu) : Ppu :=
  if p.scanline ≤ 239 ∧ 1 ≤ p.dot ∧ p.dot ≤ 256 then p.composePixel (p.dot - 1) p.scanline else p

/-- The fetches of a dot, on render lines with rendering enabled (R750). -/
def Video.renderStep (b : Video) : Video :=
  if (b.ppu.scanline ≤ 239 ∨ b.ppu.scanline = 261) ∧ b.ppu.renderingEnabled then
    b.backgroundDot.spriteDot
  else b

/-- `PpuTick()` (R750) on the PPU and the cartridge. -/
def Video.tick (b : Video) : Video :=
  let b1 := { b with ppu := b.ppu.pixelStep }.renderStep
  { b1 with ppu := b1.ppu.updateStatus.advance }

/-- `PpuTick()` (R750) on the machine; VBlank raises the NMI latch when NMI output is enabled (R860, R705). -/
def State.ppuTick (s : State) : State :=
  let b := Video.tick ⟨s.ppu, s.cart, s.settings⟩
  { s with
    ppu := b.ppu
    cart := b.cart
    cpu := { s.cpu with nmiPending := s.cpu.nmiPending || (s.ppu.startsVBlank && s.ppu.nmiOutput) } }

end Sys2Proof.Machine
end

