-- ==== Sys2Proof/Machine/Bus.lean ====
section
/-! DEFINITION. The CPU bus (spec 20 sections 1, 4, 5): the decoder of reads and writes, with the side effects of
its targets, and the clock fan-out (00 R30). -/

namespace Sys2Proof.Machine

/-! ### The clock -/

/-- One CPU cycle: three PPU dots, then one APU cycle (R30, 92 D47). -/
def State.tickCycle (s : State) : State := s.ppuTick.ppuTick.ppuTick.apuTick

/-- `Tick(n)` (R30). -/
def State.tick : Nat → State → State
  | 0, s => s
  | n + 1, s => State.tick n s.tickCycle

/-- The caller's `cycles <- cycles + n` (R400, R413). -/
def State.addCycles (s : State) (n : Nat) : State := { s with cpu := { s.cpu with cycles := s.cpu.cycles + n } }

/-! ### Reads -/

/-- The state after a draw of a free byte (log 3). -/
def State.drawn (s : State) : State := { s with bus := { s.bus with draws := s.bus.draws + 1 } }

/-- An undecoded read: a draw, and no other effect (R209). -/
def State.readOpenBus (s : State) : Byte × State := (Config.openBusValue s.bus.draws, s.drawn)

/-- A read of a write-only PPU register: a draw, and no other effect (R795). -/
def State.readWriteOnly (s : State) : Byte × State := (Config.woRegValue s.bus.draws, s.drawn)

/-- The state with the video side replaced. -/
def State.withVideo (s : State) (b : Video) : State := { s with ppu := b.ppu, cart := b.cart }

/-- A read of PPU register `r` (R780). -/
def State.readPpuReg (s : State) (r : Nat) : Byte × State :=
  match r with
  | 2 => let q := s.ppu.statusRead; (q.1, { s with ppu := q.2 })
  | 4 => (s.ppu.oam.get s.ppu.oamAddr.toNat, s)
  | 7 => let q := Video.dataRead ⟨s.ppu, s.cart, s.settings⟩; (q.1, s.withVideo q.2)
  | _ => s.readWriteOnly

/-- A controller's shift register after a read with strobe 0 (R242). -/
def shiftedOut (v : Byte) : Byte := (v >>> 1) ||| 0x80

/-- A read of $4016 (R242). -/
def State.readController0 (s : State) : Byte × State :=
  if s.bus.strobe then ((s.bus.input0 &&& 1) ||| 0x40, s)
  else ((s.bus.shift0 &&& 1) ||| 0x40, { s with bus := { s.bus with shift0 := shiftedOut s.bus.shift0 } })

/-- A read of $4017 (R242). -/
def State.readController1 (s : State) : Byte × State :=
  if s.bus.strobe then ((s.bus.input1 &&& 1) ||| 0x40, s)
  else ((s.bus.shift1 &&& 1) ||| 0x40, { s with bus := { s.bus with shift1 := shiftedOut s.bus.shift1 } })

/-- A read of $4015 (R960). -/
def State.readApuStatus (s : State) : Byte × State :=
  let q := s.apu.statusRead
  (q.1, { s with apu := q.2 })

/-- A read of cartridge space (R210, R260): undecoded where the mapper leaves the address unmapped. -/
def State.readCart (s : State) (a : Word) : Byte × State :=
  match s.cart.cpuRead a with
  | some v => (v, s)
  | none => s.readOpenBus

/-- `Read(addr)` (R18, R200). -/
def State.read (s : State) (a : Word) : Byte × State :=
  let n := a.toNat
  if n < 0x2000 then (s.bus.ram.get (n % 0x800), s)
  else if n < 0x4000 then s.readPpuReg (n % 8)
  else if n = 0x4015 then s.readApuStatus
  else if n = 0x4016 then s.readController0
  else if n = 0x4017 then s.readController1
  else if n < 0x4020 then s.readOpenBus
  else s.readCart a

/-! ### Writes -/

/-- A write of RAM (R201, R202). -/
def State.writeRam (s : State) (n : Nat) (v : Byte) : State :=
  { s with bus := { s.bus with ram := s.bus.ram.set (n % 0x800) v } }

/-- A CTRL write (R782): it may set the NMI latch. -/
def State.writeCtrl (s : State) (v : Byte) : State :=
  { s with
    ppu := s.ppu.ctrlWrite v
    cpu := { s.cpu with nmiPending := s.cpu.nmiPending || s.ppu.ctrlWriteRaisesNmi v } }

/-- A write of PPU register `r` (R780); a STATUS write has no effect (R784). -/
def State.writePpuReg (s : State) (r : Nat) (v : Byte) : State :=
  match r with
  | 0 => s.writeCtrl v
  | 1 => { s with ppu := { s.ppu with mask := v } }
  | 3 => { s with ppu := { s.ppu with oamAddr := v } }
  | 4 => { s with ppu := s.ppu.oamDataWrite v }
  | 5 => { s with ppu := s.ppu.scrollWrite v }
  | 6 => { s with ppu := s.ppu.addrWrite v }
  | 7 => s.withVideo (Video.dataWrite ⟨s.ppu, s.cart, s.settings⟩ v)
  | _ => s

/-- A write of $4014 (R230). -/
def State.requestDma (s : State) (v : Byte) : State :=
  { s with bus := { s.bus with dmaPage := v, dmaPending := true } }

/-- A write of $4016 (R241): a 1 to 0 strobe copies both input latches into the shift registers. -/
def State.writeStrobe (s : State) (v : Byte) : State :=
  let new := bit v 0
  if s.bus.strobe && !new then
    { s with bus := { s.bus with shift0 := s.bus.input0, shift1 := s.bus.input1, strobe := new } }
  else { s with bus := { s.bus with strobe := new } }

/-- `Write(addr, v)` (R18, R201). -/
def State.write (s : State) (a : Word) (v : Byte) : State :=
  let n := a.toNat
  if n < 0x2000 then s.writeRam n v
  else if n < 0x4000 then s.writePpuReg (n % 8) v
  else if n = 0x4014 then s.requestDma v
  else if n = 0x4016 then s.writeStrobe v
  else if n < 0x4018 then { s with apu := s.apu.write (n - 0x4000) v }
  else if n < 0x4020 then s
  else { s with cart := s.cart.cpuWrite a v }

/-! ### Peek -/

/-- `Peek(addr)` (R18, R1034): the byte `Read` would return for RAM and cartridge addresses, 0xFF for
$2000-$401F; it changes nothing. Where the mapper leaves the address unmapped, the byte the next draw would
give (log 3). -/
def State.peek (s : State) (a : Word) : Byte :=
  let n := a.toNat
  if n < 0x2000 then s.bus.ram.get (n % 0x800)
  else if n < 0x4020 then 0xFF
  else (s.cart.cpuRead a).getD (Config.openBusValue s.bus.draws)

end Sys2Proof.Machine
end

