-- ==== Sys2Proof/Machine/Flags.lean ====
section
/-! DEFINITION. The status register P and every flag computation of the spec (10 R101-R104; 00 R19; 42 R500,
R501, R503; 44 R613-R616). -/

namespace Sys2Proof.Machine

/-- P as software sees it (R101): bits 7..0 are N V U B D I Z C, with U read as 1 and B as 0 (R102, R103). -/
def Flags.toByte (f : Flags) : Byte :=
  (bitByte f.n <<< 7) ||| (bitByte f.v <<< 6) ||| 0x20 ||| (bitByte f.d <<< 3) |||
    (bitByte f.i <<< 2) ||| (bitByte f.z <<< 1) ||| bitByte f.c

/-- A whole write of P (PLP, RTI): the incoming B is ignored and U stays 1 (R102, R103, R471). -/
def Flags.ofByte (v : Byte) : Flags where
  c := bit v 0
  z := bit v 1
  i := bit v 2
  d := bit v 3
  v := bit v 6
  n := bit v 7

/-- The byte PHP and BRK push: `P | 0x30`, B and U set (R470, R575). -/
def Flags.pushedByInstruction (f : Flags) : Byte := f.toByte ||| 0x30

/-- The byte an NMI or an IRQ pushes: `(P | 0x20) & 0xEF`, U set and B clear (R720). -/
def Flags.pushedByInterrupt (f : Flags) : Byte := (f.toByte ||| 0x20) &&& 0xEF

/-- `SetZN(v)` (R19). -/
def Flags.setZN (f : Flags) (v : Byte) : Flags := { f with z := v == 0, n := bit v 7 }

/-- `AddWithCarry(m)` (R500) on the accumulator `a`: the new accumulator and flags. The decimal flag is inert. -/
def addWithCarry (a m : Byte) (f : Flags) : Byte × Flags :=
  let sum := a.toNat + m.toNat + f.c.toNat
  let r : Byte := BitVec.ofNat 8 sum
  (r, { f.setZN r with
        c := decide (0xFF < sum)
        v := (~~~(a ^^^ m) &&& (a ^^^ r)) &&& 0x80 != 0 })

/-- `Compare(reg, m)` (R501): C when reg is at least m, Z and N from the difference. -/
def compareFlags (reg m : Byte) (f : Flags) : Flags :=
  { f.setZN (reg - m) with c := decide (m.toNat ≤ reg.toNat) }

/-- `ASL(m)` (R503). -/
def shiftLeft (m : Byte) (f : Flags) : Byte × Flags := (m <<< 1, { f with c := bit m 7 })

/-- `LSR(m)` (R503). -/
def shiftRight (m : Byte) (f : Flags) : Byte × Flags := (m >>> 1, { f with c := bit m 0 })

/-- `ROL(m)` (R503): the carry rotated in is the one before the instruction. -/
def rotateLeft (m : Byte) (f : Flags) : Byte × Flags :=
  ((m <<< 1) ||| bitByte f.c, { f with c := bit m 7 })

/-- `ROR(m)` (R503): the carry rotated in is the one before the instruction. -/
def rotateRight (m : Byte) (f : Flags) : Byte × Flags :=
  ((m >>> 1) ||| (bitByte f.c <<< 7), { f with c := bit m 0 })

/-- The memory step of INC and ISB (R519, R608); C is unchanged. -/
def incByte (m : Byte) (f : Flags) : Byte × Flags := (m + 1, f)

/-- The memory step of DEC and DCP (R520, R607); C is unchanged. -/
def decByte (m : Byte) (f : Flags) : Byte × Flags := (m - 1, f)

/-- BIT (R518): Z from `A & m`, V and N from the memory byte. -/
def bitTestFlags (a m : Byte) (f : Flags) : Flags :=
  { f with z := a &&& m == 0, v := bit m 6, n := bit m 7 }

/-- ANC (R613): AND, then C takes N. -/
def ancResult (a b : Byte) (f : Flags) : Byte × Flags :=
  let r := a &&& b
  (r, { f.setZN r with c := bit r 7 })

/-- ALR (R614): AND, then LSR. -/
def alrResult (a b : Byte) (f : Flags) : Byte × Flags :=
  let t := a &&& b
  let r := t >>> 1
  (r, { f.setZN r with c := bit t 0 })

/-- ARR (R615): AND, then a rotate right whose C is bit 6 and whose V is bit 6 xor bit 5 of the result. -/
def arrResult (a b : Byte) (f : Flags) : Byte × Flags :=
  let t := a &&& b
  let r := (t >>> 1) ||| (bitByte f.c <<< 7)
  (r, { f.setZN r with c := bit r 6, v := bit r 6 ^^ bit r 5 })

/-- AXS (R616): X takes `(A & X) - b`; C when no borrow; V unchanged, the incoming C unused. -/
def axsResult (a x b : Byte) (f : Flags) : Byte × Flags :=
  let t := a &&& x
  let r := t - b
  (r, { f.setZN r with c := decide (b.toNat ≤ t.toNat) })

end Sys2Proof.Machine
end

