-- ==== Sys2Proof/Machine/Ops.lean ====
section
/-! DEFINITION. The named operations over registers and memory: register updates, 16-bit reads, the stack,
taking an interrupt and returning from one, OAM-DMA (spec 00 R18; 20 R230-R236; 60 R705-R725). -/

namespace Sys2Proof.Machine

/-! ### Registers -/

/-- `A <- v`. -/
def State.setA (s : State) (v : Byte) : State := { s with cpu := { s.cpu with a := v } }

/-- `X <- v`. -/
def State.setX (s : State) (v : Byte) : State := { s with cpu := { s.cpu with x := v } }

/-- `Y <- v`. -/
def State.setY (s : State) (v : Byte) : State := { s with cpu := { s.cpu with y := v } }

/-- `S <- v`. -/
def State.setSp (s : State) (v : Byte) : State := { s with cpu := { s.cpu with sp := v } }

/-- `PC <- a`. -/
def State.setPc (s : State) (a : Word) : State := { s with cpu := { s.cpu with pc := a } }

/-- The flags replaced. -/
def State.setFlags (s : State) (f : Flags) : State := { s with cpu := { s.cpu with flags := f } }

/-- `SetZN(v)` (R19). -/
def State.setZN (s : State) (v : Byte) : State := s.setFlags (s.cpu.flags.setZN v)

/-- P as software sees it (R101-R103). -/
def State.p (s : State) : Byte := s.cpu.flags.toByte

/-! ### Memory -/

/-- `Read16(addr)` (R18, R220): the low byte first. -/
def State.read16 (s : State) (a : Word) : Word × State :=
  let lo := s.read a
  let hi := lo.2.read (a + 1)
  (wordOf lo.1 hi.1, hi.2)

/-- `Read16ZP(zp)` (R18): both bytes come from the zero page. -/
def State.read16Zp (s : State) (zp : Byte) : Word × State :=
  let lo := s.read (zpWord zp)
  let hi := lo.2.read (zpWord (zp + 1))
  (wordOf lo.1 hi.1, hi.2)

/-- The address after `ptr` within its page (R425): the low byte wraps, the high byte is not incremented. -/
def nextInPage (ptr : Word) : Word := (ptr &&& 0xFF00) ||| ((ptr + 1) &&& 0x00FF)

/-- The target of JMP (ind) (R425): the high byte comes from the same page. -/
def State.read16Page (s : State) (ptr : Word) : Word × State :=
  let lo := s.read ptr
  let hi := lo.2.read (nextInPage ptr)
  (wordOf lo.1 hi.1, hi.2)

/-! ### The stack -/

/-- The stack address `0x0100 | S` (R105). -/
def stackAddr (sp : Byte) : Word := 0x0100 ||| sp.setWidth 16

/-- `Push(v)` (R18, R467). -/
def State.push (s : State) (v : Byte) : State :=
  let s1 := s.write (stackAddr s.cpu.sp) v
  s1.setSp (s1.cpu.sp - 1)

/-- `Pull()` (R18, R467). -/
def State.pull (s : State) : Byte × State :=
  let s1 := s.setSp (s.cpu.sp + 1)
  s1.read (stackAddr s1.cpu.sp)

/-- Push a word, high byte first (R220). -/
def State.pushWord (s : State) (w : Word) : State := (s.push (hiByte w)).push (loByte w)

/-- Pull a word, low byte first. -/
def State.pullWord (s : State) : Word × State :=
  let lo := s.pull
  let hi := lo.2.pull
  (wordOf lo.1 hi.1, hi.2)

/-! ### Fetch -/

/-- One fetch: `b <- Read(PC); PC <- PC + 1` (R402). -/
def State.fetch (s : State) : Byte × State :=
  let r := s.read s.cpu.pc
  (r.1, r.2.setPc (s.cpu.pc + 1))

/-! ### Interrupts -/

/-- The NMI vector (R224). -/
def nmiVector : Word := 0xFFFA

/-- The reset vector (R224). -/
def resetVector : Word := 0xFFFC

/-- The vector IRQ and BRK share (R224). -/
def irqVector : Word := 0xFFFE

/-- TAKING AN EXCEPTION: PC high, PC low and the given copy of P are pushed, I is set, and PC is read from the
vector (R575, R720). -/
def State.enterHandler (s : State) (pushed : Byte) (vector : Word) : State :=
  let s1 := (s.pushWord s.cpu.pc).push pushed
  let s2 := s1.setFlags { s1.cpu.flags with i := true }
  let r := s2.read16 vector
  r.2.setPc r.1

/-- RETURNING FROM ONE: P is pulled (B ignored, U forced to 1), then PC low and high, with no increment (R563,
R725). -/
def State.returnFromHandler (s : State) : State :=
  let p := s.pull
  let s1 := p.2.setFlags (Flags.ofByte p.1)
  let r := s1.pullWord
  r.2.setPc r.1

/-- `InterruptSequence(vector)` (R720): entry with B clear and U set in the pushed P, 7 cycles, and their
fan-out. -/
def State.interruptSequence (s : State) (vector : Word) : State :=
  ((s.enterHandler s.cpu.flags.pushedByInterrupt vector).addCycles 7).tick 7

/-- The IRQ line: the OR of the frame counter, the mapper and the host (R109, R710). -/
def State.irqLine (s : State) : Bool := s.apu.frameIrq || s.cart.irqQuery || s.cpu.hostIrq

/-- `AcknowledgeIrq()` (R711), under a value of IRQ_AUTOACK_MAPPER. -/
def State.acknowledgeIrqWith (autoack : Bool) (s : State) : State :=
  let s1 := { s with cpu := { s.cpu with hostIrq := false } }
  if autoack then { s1 with cart := s1.cart.irqClear } else s1

/-- `AcknowledgeIrq()` (R711). -/
def State.acknowledgeIrq (s : State) : State := s.acknowledgeIrqWith s.settings.irqAutoackMapper

/-- The NMI latch is cleared when the NMI is taken (R400). -/
def State.clearNmi (s : State) : State := { s with cpu := { s.cpu with nmiPending := false } }

/-! ### OAM-DMA -/

/-- One byte of the copy: an ordinary bus read, then a write through the OAM data register (R232, R789). -/
def State.dmaByte (s : State) (i : Byte) : State :=
  let r := s.read (wordOf i s.bus.dmaPage)
  { r.2 with ppu := r.2.ppu.oamDataWrite r.1 }

/-- `n` bytes of the copy, from index `i` of the page on (R232). -/
def State.dmaCopy : Nat → Byte → State → State
  | 0, _, s => s
  | n + 1, i, s => State.dmaCopy n (i + 1) (s.dmaByte i)

/-- The stall (R236), under a value of DMA_ODD_EXTRA: 513 cycles, or 514 when it begins on an odd one. -/
def dmaStallWith (oddExtra : Bool) (cycles : Nat) : Nat := 513 + (if oddExtra ∧ cycles % 2 = 1 then 1 else 0)

/-- `OamDma()` (R231-R236): all 256 bytes are copied, then the stall is counted and fanned out. -/
def State.oamDma (s : State) : State :=
  let s1 := { s with bus := { s.bus with dmaPending := false } }
  let s2 := State.dmaCopy 256 0 s1
  let stall := dmaStallWith s.settings.dmaOddExtra s2.cpu.cycles
  (s2.addCycles stall).tick stall

end Sys2Proof.Machine
end

