-- ==== Sys2Proof/Machine/Operands.lean ====
section
/-! DEFINITION. The addressing modes (spec 40 R420-R427), the operand helpers, the read-modify-write protocol
(42 R502), and the cycle count of an instruction (40 R410-R412). A meaning runs on the state whose PC has passed
the instruction's bytes, makes the instruction's remaining bus accesses in the order of R428, and adds its
cycle count to `cycles`; the step fans the cycles out (R400, R401, log 8). -/

namespace Sys2Proof.Machine

/-- The memory addressing modes, with their operand bytes (R301). -/
inductive Mem where
  | zp (b : Byte)
  | zpX (b : Byte)
  | zpY (b : Byte)
  | abs (a : Word)
  | absX (a : Word)
  | absY (a : Word)
  | indX (b : Byte)
  | indY (b : Byte)
  deriving DecidableEq, Repr

/-- An operand that can be read: an immediate byte or a memory form (R427). -/
inductive Operand where
  | imm (b : Byte)
  | mem (m : Mem)
  deriving DecidableEq, Repr

/-- What `Resolve` returns (R401): the effective address, whether a page was crossed, and the state after the
pointer reads. -/
structure Resolved where
  ea : Word
  crossed : Bool
  st : State
  deriving DecidableEq, Repr

/-- An indexed address and its page cross (R411, R422). -/
def indexed (base : Word) (index : Byte) (s : State) : Resolved :=
  let ea := base + index.setWidth 16
  { ea := ea, crossed := pageDiffers base ea, st := s }

/-- `Resolve(mode)` for the memory modes (R421-R424). -/
def Mem.resolve (m : Mem) (s : State) : Resolved :=
  match m with
  | .zp b => { ea := zpWord b, crossed := false, st := s }
  | .zpX b => { ea := zpWord (b + s.cpu.x), crossed := false, st := s }
  | .zpY b => { ea := zpWord (b + s.cpu.y), crossed := false, st := s }
  | .abs a => { ea := a, crossed := false, st := s }
  | .absX a => indexed a s.cpu.x s
  | .absY a => indexed a s.cpu.y s
  | .indX b => let r := s.read16Zp (b + s.cpu.x); { ea := r.1, crossed := false, st := r.2 }
  | .indY b => let r := s.read16Zp b; indexed r.1 r.2.cpu.y r.2

/-- What reading an operand gives: the byte, whether a page was crossed, and the state after the reads. -/
structure Loaded where
  value : Byte
  crossed : Bool
  st : State
  deriving DecidableEq, Repr

/-- `Resolve` and then `Operand()` (R427): one bus read for a memory mode, none for an immediate. -/
def Operand.load (o : Operand) (s : State) : Loaded :=
  match o with
  | .imm b => { value := b, crossed := false, st := s }
  | .mem m =>
    let r := m.resolve s
    let q := r.st.read r.ea
    { value := q.1, crossed := r.crossed, st := q.2 }

/-- The page extra of R410: 1 when the entry has the page penalty and a page was crossed. -/
def pageExtra (penalty crossed : Bool) : Nat := if penalty && crossed then 1 else 0

/-- The outcome of an instruction that goes on: `n` cycles are added to the counter (R410). -/
def finish (n : Nat) (s : State) : Host.Outcome State Fault Refusal := .next (s.addCycles n)

/-- An instruction that reads its operand and uses it: `base` cycles, and the page extra if `penalty`. -/
def readOp (o : Operand) (base : Nat) (penalty : Bool) (use : Byte → State → State) (s : State) :
    Host.Outcome State Fault Refusal :=
  let l := o.load s
  finish (base + pageExtra penalty l.crossed) (use l.value l.st)

/-- An instruction that stores one byte computed from the registers: `Store(v)` (R427), no page extra. -/
def storeOp (m : Mem) (base : Nat) (v : Cpu → Byte) (s : State) : Host.Outcome State Fault Refusal :=
  let r := m.resolve s
  finish base (r.st.write r.ea (v r.st.cpu))

/-- `RMW(f)` (R502), under a value of RMW_DUMMY_WRITE: read, write the byte back, write the result. `f` gives the
result and the flags. -/
def State.rmwWith (dummy : Bool) (s : State) (ea : Word) (f : Byte → Flags → Byte × Flags) : Byte × State :=
  let q := s.read ea
  let s1 := if dummy then q.2.write ea q.1 else q.2
  let r := f q.1 s1.cpu.flags
  (r.1, (s1.setFlags r.2).write ea r.1)

/-- `RMW(f)` (R502). -/
def State.rmw (s : State) (ea : Word) (f : Byte → Flags → Byte × Flags) : Byte × State :=
  s.rmwWith s.settings.rmwDummyWrite ea f

/-- A memory read-modify-write instruction: `RMW(f)` at the effective address, then the register step on the
written result (R502, R600). -/
def rmwOp (m : Mem) (base : Nat) (f : Byte → Flags → Byte × Flags) (use : Byte → State → State) (s : State) :
    Host.Outcome State Fault Refusal :=
  let r := m.resolve s
  let q := r.st.rmw r.ea f
  finish base (use q.1 q.2)

/-- The accumulator form of a shift or rotate: no bus access (R502, R525-R528). -/
def accOp (base : Nat) (f : Byte → Flags → Byte × Flags) (s : State) : Host.Outcome State Fault Refusal :=
  let r := f s.cpu.a s.cpu.flags
  finish base (((s.setFlags r.2).setA r.1).setZN r.1)

/-- An implied instruction that works on registers and the stack. -/
def impliedOp (base : Nat) (use : State → State) (s : State) : Host.Outcome State Fault Refusal :=
  finish base (use s)

/-- `Branch(cond)` (R550) with the relative mode's target (R426) and the branch extras (R412). -/
def branchOp (cond : Flags → Bool) (off : Byte) (s : State) : Host.Outcome State Fault Refusal :=
  let target := s.cpu.pc + sext8 off
  if cond s.cpu.flags then
    finish (2 + (if pageDiffers s.cpu.pc target then 2 else 1)) (s.setPc target)
  else finish 2 s

/-- `raise Refused(opcode)` (R310). -/
def refuse (op : Byte) : Host.Outcome State Fault Refusal := .refused (.opcode op)

end Sys2Proof.Machine
end

