-- ==== Sys2Proof/Machine/Effects.lean ====
section
/-! DEFINITION. What the instructions do with an operand they have read, or with the registers alone (spec 41 to
44): the register and flag steps the meanings share. -/

namespace Sys2Proof.Machine

/-- What a meaning answers. -/
abbrev Answer := Host.Outcome State Fault Refusal

/-! ### With an operand byte -/

/-- LDA (R451). -/
def loadA (v : Byte) (s : State) : State := (s.setA v).setZN v

/-- LDX (R452). -/
def loadX (v : Byte) (s : State) : State := (s.setX v).setZN v

/-- LDY (R453). -/
def loadY (v : Byte) (s : State) : State := (s.setY v).setZN v

/-- LAX (R605). -/
def loadAX (v : Byte) (s : State) : State := ((s.setA v).setX v).setZN v

/-- `AddWithCarry(m)` on the accumulator (R500, R510). -/
def addA (m : Byte) (s : State) : State :=
  let r := addWithCarry s.cpu.a m s.cpu.flags
  (s.setFlags r.2).setA r.1

/-- SBC (R511): `AddWithCarry(~m)`. -/
def subtractA (m : Byte) (s : State) : State := addA (~~~m) s

/-- AND (R512). -/
def andA (m : Byte) (s : State) : State := loadA (s.cpu.a &&& m) s

/-- ORA (R513). -/
def orA (m : Byte) (s : State) : State := loadA (s.cpu.a ||| m) s

/-- EOR (R514). -/
def eorA (m : Byte) (s : State) : State := loadA (s.cpu.a ^^^ m) s

/-- CMP (R515). -/
def compareA (m : Byte) (s : State) : State := s.setFlags (compareFlags s.cpu.a m s.cpu.flags)

/-- CPX (R516). -/
def compareX (m : Byte) (s : State) : State := s.setFlags (compareFlags s.cpu.x m s.cpu.flags)

/-- CPY (R517). -/
def compareY (m : Byte) (s : State) : State := s.setFlags (compareFlags s.cpu.y m s.cpu.flags)

/-- BIT (R518). -/
def bitTest (m : Byte) (s : State) : State := s.setFlags (bitTestFlags s.cpu.a m s.cpu.flags)

/-- The N and Z of a written result (R519-R528). -/
def setZNof (r : Byte) (s : State) : State := s.setZN r

/-- The operand is read and discarded (R602, R603). -/
def discard (_ : Byte) (s : State) : State := s

/-- ANC (R613). -/
def ancA (b : Byte) (s : State) : State :=
  let r := ancResult s.cpu.a b s.cpu.flags
  (s.setFlags r.2).setA r.1

/-- ALR (R614). -/
def alrA (b : Byte) (s : State) : State :=
  let r := alrResult s.cpu.a b s.cpu.flags
  (s.setFlags r.2).setA r.1

/-- ARR (R615). -/
def arrA (b : Byte) (s : State) : State :=
  let r := arrResult s.cpu.a b s.cpu.flags
  (s.setFlags r.2).setA r.1

/-- AXS (R616). -/
def axsX (b : Byte) (s : State) : State :=
  let r := axsResult s.cpu.a s.cpu.x b s.cpu.flags
  (s.setFlags r.2).setX r.1

/-- The byte SAX stores (R606). -/
def Cpu.aAndX (c : Cpu) : Byte := c.a &&& c.x

/-! ### Implied -/

/-- TAX (R457). -/
def transferAX (s : State) : State := (s.setX s.cpu.a).setZN s.cpu.a

/-- TAY (R458). -/
def transferAY (s : State) : State := (s.setY s.cpu.a).setZN s.cpu.a

/-- TXA (R459). -/
def transferXA (s : State) : State := (s.setA s.cpu.x).setZN s.cpu.x

/-- TYA (R460). -/
def transferYA (s : State) : State := (s.setA s.cpu.y).setZN s.cpu.y

/-- TSX (R461). -/
def transferSX (s : State) : State := (s.setX s.cpu.sp).setZN s.cpu.sp

/-- TXS (R462): no flags. -/
def transferXS (s : State) : State := s.setSp s.cpu.x

/-- PHA (R468). -/
def pushA (s : State) : State := s.push s.cpu.a

/-- PLA (R469). -/
def pullA (s : State) : State :=
  let r := s.pull
  loadA r.1 r.2

/-- PHP (R470). -/
def pushP (s : State) : State := s.push s.cpu.flags.pushedByInstruction

/-- PLP (R471). -/
def pullP (s : State) : State :=
  let r := s.pull
  r.2.setFlags (Flags.ofByte r.1)

/-- INX (R521). -/
def incX (s : State) : State := loadX (s.cpu.x + 1) s

/-- INY (R522). -/
def incY (s : State) : State := loadY (s.cpu.y + 1) s

/-- DEX (R523). -/
def decX (s : State) : State := loadX (s.cpu.x - 1) s

/-- DEY (R524). -/
def decY (s : State) : State := loadY (s.cpu.y - 1) s

/-- CLC (R565). -/
def clearC (s : State) : State := s.setFlags { s.cpu.flags with c := false }

/-- SEC (R566). -/
def setC (s : State) : State := s.setFlags { s.cpu.flags with c := true }

/-- CLI (R567). -/
def clearI (s : State) : State := s.setFlags { s.cpu.flags with i := false }

/-- SEI (R568). -/
def setI (s : State) : State := s.setFlags { s.cpu.flags with i := true }

/-- CLV (R569). -/
def clearV (s : State) : State := s.setFlags { s.cpu.flags with v := false }

/-- CLD (R570). -/
def clearD (s : State) : State := s.setFlags { s.cpu.flags with d := false }

/-- SED (R571): stored, inert. -/
def setD (s : State) : State := s.setFlags { s.cpu.flags with d := true }

/-- NOP (R573, R601). -/
def noEffect (s : State) : State := s

/-! ### Control transfer -/

/-- JMP abs (R560): the operand itself is the target. -/
def jumpOp (base : Nat) (a : Word) (s : State) : Answer := finish base (s.setPc a)

/-- JMP (ind) (R560, R425). -/
def jumpIndirectOp (base : Nat) (ptr : Word) (s : State) : Answer :=
  let r := s.read16Page ptr
  finish base (r.2.setPc r.1)

/-- JSR (R561, 90 C6): the address of its own last byte is pushed. -/
def callOp (base : Nat) (a : Word) (s : State) : Answer :=
  finish base ((s.pushWord (s.cpu.pc - 1)).setPc a)

/-- RTS (R562). -/
def returnFromSubroutine (s : State) : State :=
  let r := s.pullWord
  r.2.setPc (r.1 + 1)

/-- BRK (R575): the padding byte is skipped, not fetched; entry with B and U set in the pushed P. -/
def breakEntry (s : State) : State :=
  let s1 := s.setPc (s.cpu.pc + 1)
  s1.enterHandler s1.cpu.flags.pushedByInstruction irqVector

end Sys2Proof.Machine
end

