-- ==== Sys2Proof/Machine/ArithLogic.lean ====
section
/-! DEFINITION. The meanings of ADC, SBC, AND, ORA, EOR, CMP, CPX, CPY, BIT (spec 42 R510-R518): one definition per row of
the opcode table, each over the shared operations, with its cycles from the table (30 R303). -/

namespace Sys2Proof.Machine

/-- `ORA` $01 (izx), R513, 6 cycles. -/
def execOraIndX (b : Byte) (s : State) : Answer :=
  readOp (.mem (.indX b)) 6 false orA s

/-- `ORA` $05 (zp), R513, 3 cycles. -/
def execOraZp (b : Byte) (s : State) : Answer :=
  readOp (.mem (.zp b)) 3 false orA s

/-- `ORA` $09 (imm), R513, 2 cycles. -/
def execOraImm (b : Byte) (s : State) : Answer :=
  readOp (.imm b) 2 false orA s

/-- `ORA` $0D (abs), R513, 4 cycles. -/
def execOraAbs (a : Word) (s : State) : Answer :=
  readOp (.mem (.abs a)) 4 false orA s

/-- `ORA` $11 (izy), R513, 5 cycles and the page extra. -/
def execOraIndY (b : Byte) (s : State) : Answer :=
  readOp (.mem (.indY b)) 5 true orA s

/-- `ORA` $15 (zpx), R513, 4 cycles. -/
def execOraZpX (b : Byte) (s : State) : Answer :=
  readOp (.mem (.zpX b)) 4 false orA s

/-- `ORA` $19 (aby), R513, 4 cycles and the page extra. -/
def execOraAbsY (a : Word) (s : State) : Answer :=
  readOp (.mem (.absY a)) 4 true orA s

/-- `ORA` $1D (abx), R513, 4 cycles and the page extra. -/
def execOraAbsX (a : Word) (s : State) : Answer :=
  readOp (.mem (.absX a)) 4 true orA s

/-- `AND` $21 (izx), R512, 6 cycles. -/
def execAndIndX (b : Byte) (s : State) : Answer :=
  readOp (.mem (.indX b)) 6 false andA s

/-- `BIT` $24 (zp), R518, 3 cycles. -/
def execBitZp (b : Byte) (s : State) : Answer :=
  readOp (.mem (.zp b)) 3 false bitTest s

/-- `AND` $25 (zp), R512, 3 cycles. -/
def execAndZp (b : Byte) (s : State) : Answer :=
  readOp (.mem (.zp b)) 3 false andA s

/-- `AND` $29 (imm), R512, 2 cycles. -/
def execAndImm (b : Byte) (s : State) : Answer :=
  readOp (.imm b) 2 false andA s

/-- `BIT` $2C (abs), R518, 4 cycles. -/
def execBitAbs (a : Word) (s : State) : Answer :=
  readOp (.mem (.abs a)) 4 false bitTest s

/-- `AND` $2D (abs), R512, 4 cycles. -/
def execAndAbs (a : Word) (s : State) : Answer :=
  readOp (.mem (.abs a)) 4 false andA s

/-- `AND` $31 (izy), R512, 5 cycles and the page extra. -/
def execAndIndY (b : Byte) (s : State) : Answer :=
  readOp (.mem (.indY b)) 5 true andA s

/-- `AND` $35 (zpx), R512, 4 cycles. -/
def execAndZpX (b : Byte) (s : State) : Answer :=
  readOp (.mem (.zpX b)) 4 false andA s

/-- `AND` $39 (aby), R512, 4 cycles and the page extra. -/
def execAndAbsY (a : Word) (s : State) : Answer :=
  readOp (.mem (.absY a)) 4 true andA s

/-- `AND` $3D (abx), R512, 4 cycles and the page extra. -/
def execAndAbsX (a : Word) (s : State) : Answer :=
  readOp (.mem (.absX a)) 4 true andA s

/-- `EOR` $41 (izx), R514, 6 cycles. -/
def execEorIndX (b : Byte) (s : State) : Answer :=
  readOp (.mem (.indX b)) 6 false eorA s

/-- `EOR` $45 (zp), R514, 3 cycles. -/
def execEorZp (b : Byte) (s : State) : Answer :=
  readOp (.mem (.zp b)) 3 false eorA s

/-- `EOR` $49 (imm), R514, 2 cycles. -/
def execEorImm (b : Byte) (s : State) : Answer :=
  readOp (.imm b) 2 false eorA s

/-- `EOR` $4D (abs), R514, 4 cycles. -/
def execEorAbs (a : Word) (s : State) : Answer :=
  readOp (.mem (.abs a)) 4 false eorA s

/-- `EOR` $51 (izy), R514, 5 cycles and the page extra. -/
def execEorIndY (b : Byte) (s : State) : Answer :=
  readOp (.mem (.indY b)) 5 true eorA s

/-- `EOR` $55 (zpx), R514, 4 cycles. -/
def execEorZpX (b : Byte) (s : State) : Answer :=
  readOp (.mem (.zpX b)) 4 false eorA s

/-- `EOR` $59 (aby), R514, 4 cycles and the page extra. -/
def execEorAbsY (a : Word) (s : State) : Answer :=
  readOp (.mem (.absY a)) 4 true eorA s

/-- `EOR` $5D (abx), R514, 4 cycles and the page extra. -/
def execEorAbsX (a : Word) (s : State) : Answer :=
  readOp (.mem (.absX a)) 4 true eorA s

/-- `ADC` $61 (izx), R510, 6 cycles. -/
def execAdcIndX (b : Byte) (s : State) : Answer :=
  readOp (.mem (.indX b)) 6 false addA s

/-- `ADC` $65 (zp), R510, 3 cycles. -/
def execAdcZp (b : Byte) (s : State) : Answer :=
  readOp (.mem (.zp b)) 3 false addA s

/-- `ADC` $69 (imm), R510, 2 cycles. -/
def execAdcImm (b : Byte) (s : State) : Answer :=
  readOp (.imm b) 2 false addA s

/-- `ADC` $6D (abs), R510, 4 cycles. -/
def execAdcAbs (a : Word) (s : State) : Answer :=
  readOp (.mem (.abs a)) 4 false addA s

/-- `ADC` $71 (izy), R510, 5 cycles and the page extra. -/
def execAdcIndY (b : Byte) (s : State) : Answer :=
  readOp (.mem (.indY b)) 5 true addA s

/-- `ADC` $75 (zpx), R510, 4 cycles. -/
def execAdcZpX (b : Byte) (s : State) : Answer :=
  readOp (.mem (.zpX b)) 4 false addA s

/-- `ADC` $79 (aby), R510, 4 cycles and the page extra. -/
def execAdcAbsY (a : Word) (s : State) : Answer :=
  readOp (.mem (.absY a)) 4 true addA s

/-- `ADC` $7D (abx), R510, 4 cycles and the page extra. -/
def execAdcAbsX (a : Word) (s : State) : Answer :=
  readOp (.mem (.absX a)) 4 true addA s

/-- `CPY` $C0 (imm), R517, 2 cycles. -/
def execCpyImm (b : Byte) (s : State) : Answer :=
  readOp (.imm b) 2 false compareY s

/-- `CMP` $C1 (izx), R515, 6 cycles. -/
def execCmpIndX (b : Byte) (s : State) : Answer :=
  readOp (.mem (.indX b)) 6 false compareA s

/-- `CPY` $C4 (zp), R517, 3 cycles. -/
def execCpyZp (b : Byte) (s : State) : Answer :=
  readOp (.mem (.zp b)) 3 false compareY s

/-- `CMP` $C5 (zp), R515, 3 cycles. -/
def execCmpZp (b : Byte) (s : State) : Answer :=
  readOp (.mem (.zp b)) 3 false compareA s

/-- `CMP` $C9 (imm), R515, 2 cycles. -/
def execCmpImm (b : Byte) (s : State) : Answer :=
  readOp (.imm b) 2 false compareA s

/-- `CPY` $CC (abs), R517, 4 cycles. -/
def execCpyAbs (a : Word) (s : State) : Answer :=
  readOp (.mem (.abs a)) 4 false compareY s

/-- `CMP` $CD (abs), R515, 4 cycles. -/
def execCmpAbs (a : Word) (s : State) : Answer :=
  readOp (.mem (.abs a)) 4 false compareA s

/-- `CMP` $D1 (izy), R515, 5 cycles and the page extra. -/
def execCmpIndY (b : Byte) (s : State) : Answer :=
  readOp (.mem (.indY b)) 5 true compareA s

/-- `CMP` $D5 (zpx), R515, 4 cycles. -/
def execCmpZpX (b : Byte) (s : State) : Answer :=
  readOp (.mem (.zpX b)) 4 false compareA s

/-- `CMP` $D9 (aby), R515, 4 cycles and the page extra. -/
def execCmpAbsY (a : Word) (s : State) : Answer :=
  readOp (.mem (.absY a)) 4 true compareA s

/-- `CMP` $DD (abx), R515, 4 cycles and the page extra. -/
def execCmpAbsX (a : Word) (s : State) : Answer :=
  readOp (.mem (.absX a)) 4 true compareA s

/-- `CPX` $E0 (imm), R516, 2 cycles. -/
def execCpxImm (b : Byte) (s : State) : Answer :=
  readOp (.imm b) 2 false compareX s

/-- `SBC` $E1 (izx), R511, 6 cycles. -/
def execSbcIndX (b : Byte) (s : State) : Answer :=
  readOp (.mem (.indX b)) 6 false subtractA s

/-- `CPX` $E4 (zp), R516, 3 cycles. -/
def execCpxZp (b : Byte) (s : State) : Answer :=
  readOp (.mem (.zp b)) 3 false compareX s

/-- `SBC` $E5 (zp), R511, 3 cycles. -/
def execSbcZp (b : Byte) (s : State) : Answer :=
  readOp (.mem (.zp b)) 3 false subtractA s

/-- `SBC` $E9 (imm), R511, 2 cycles. -/
def execSbcImm (b : Byte) (s : State) : Answer :=
  readOp (.imm b) 2 false subtractA s

/-- `CPX` $EC (abs), R516, 4 cycles. -/
def execCpxAbs (a : Word) (s : State) : Answer :=
  readOp (.mem (.abs a)) 4 false compareX s

/-- `SBC` $ED (abs), R511, 4 cycles. -/
def execSbcAbs (a : Word) (s : State) : Answer :=
  readOp (.mem (.abs a)) 4 false subtractA s

/-- `SBC` $F1 (izy), R511, 5 cycles and the page extra. -/
def execSbcIndY (b : Byte) (s : State) : Answer :=
  readOp (.mem (.indY b)) 5 true subtractA s

/-- `SBC` $F5 (zpx), R511, 4 cycles. -/
def execSbcZpX (b : Byte) (s : State) : Answer :=
  readOp (.mem (.zpX b)) 4 false subtractA s

/-- `SBC` $F9 (aby), R511, 4 cycles and the page extra. -/
def execSbcAbsY (a : Word) (s : State) : Answer :=
  readOp (.mem (.absY a)) 4 true subtractA s

/-- `SBC` $FD (abx), R511, 4 cycles and the page extra. -/
def execSbcAbsX (a : Word) (s : State) : Answer :=
  readOp (.mem (.absX a)) 4 true subtractA s

end Sys2Proof.Machine
end

