-- ==== Sys2Proof/Machine/Control.lean ====
section
/-! DEFINITION. The meanings of branches, jumps, subroutine and interrupt return, the flag instructions, NOP and BRK (spec 43 R550-R575): one definition per row of
the opcode table, each over the shared operations, with its cycles from the table (30 R303). -/

namespace Sys2Proof.Machine

/-- `BRK` $00 (imp), R575, 7 cycles. -/
def execBrk (s : State) : Answer :=
  impliedOp 7 breakEntry s

/-- `BPL` $10 (rel), R551, 2 cycles and the branch extra. -/
def execBpl (b : Byte) (s : State) : Answer :=
  branchOp (fun f => !f.n) b s

/-- `CLC` $18 (imp), R565, 2 cycles. -/
def execClc (s : State) : Answer :=
  impliedOp 2 clearC s

/-- `JSR` $20 (abs), R561, 6 cycles. -/
def execJsrAbs (a : Word) (s : State) : Answer :=
  callOp 6 a s

/-- `BMI` $30 (rel), R552, 2 cycles and the branch extra. -/
def execBmi (b : Byte) (s : State) : Answer :=
  branchOp (fun f => f.n) b s

/-- `SEC` $38 (imp), R566, 2 cycles. -/
def execSec (s : State) : Answer :=
  impliedOp 2 setC s

/-- `RTI` $40 (imp), R563, 6 cycles. -/
def execRti (s : State) : Answer :=
  impliedOp 6 State.returnFromHandler s

/-- `JMP` $4C (abs), R560, 3 cycles. -/
def execJmpAbs (a : Word) (s : State) : Answer :=
  jumpOp 3 a s

/-- `BVC` $50 (rel), R553, 2 cycles and the branch extra. -/
def execBvc (b : Byte) (s : State) : Answer :=
  branchOp (fun f => !f.v) b s

/-- `CLI` $58 (imp), R567, 2 cycles. -/
def execCli (s : State) : Answer :=
  impliedOp 2 clearI s

/-- `RTS` $60 (imp), R562, 6 cycles. -/
def execRts (s : State) : Answer :=
  impliedOp 6 returnFromSubroutine s

/-- `JMP` $6C (ind), R560, 5 cycles. -/
def execJmpInd (a : Word) (s : State) : Answer :=
  jumpIndirectOp 5 a s

/-- `BVS` $70 (rel), R554, 2 cycles and the branch extra. -/
def execBvs (b : Byte) (s : State) : Answer :=
  branchOp (fun f => f.v) b s

/-- `SEI` $78 (imp), R568, 2 cycles. -/
def execSei (s : State) : Answer :=
  impliedOp 2 setI s

/-- `BCC` $90 (rel), R555, 2 cycles and the branch extra. -/
def execBcc (b : Byte) (s : State) : Answer :=
  branchOp (fun f => !f.c) b s

/-- `BCS` $B0 (rel), R556, 2 cycles and the branch extra. -/
def execBcs (b : Byte) (s : State) : Answer :=
  branchOp (fun f => f.c) b s

/-- `CLV` $B8 (imp), R569, 2 cycles. -/
def execClv (s : State) : Answer :=
  impliedOp 2 clearV s

/-- `BNE` $D0 (rel), R557, 2 cycles and the branch extra. -/
def execBne (b : Byte) (s : State) : Answer :=
  branchOp (fun f => !f.z) b s

/-- `CLD` $D8 (imp), R570, 2 cycles. -/
def execCld (s : State) : Answer :=
  impliedOp 2 clearD s

/-- `NOP` $EA (imp), R573, 2 cycles. -/
def execNop (s : State) : Answer :=
  impliedOp 2 noEffect s

/-- `BEQ` $F0 (rel), R558, 2 cycles and the branch extra. -/
def execBeq (b : Byte) (s : State) : Answer :=
  branchOp (fun f => f.z) b s

/-- `SED` $F8 (imp), R571, 2 cycles. -/
def execSed (s : State) : Answer :=
  impliedOp 2 setD s

end Sys2Proof.Machine
end

