-- ==== Sys2Proof/Machine/Illegal.lean ====
section
/-! DEFINITION. The meanings of the undocumented opcodes the CORE admits (spec 44 R600-R617): one definition per row of
the opcode table, each over the shared operations, with its cycles from the table (30 R303). -/

namespace Sys2Proof.Machine

/-- `SLO` $03 (izx), R609, 8 cycles. -/
def execSloIndX (b : Byte) (s : State) : Answer :=
  rmwOp (.indX b) 8 shiftLeft orA s

/-- `NOP` $04 (zp), R603, 3 cycles. -/
def execNopZp04 (b : Byte) (s : State) : Answer :=
  readOp (.mem (.zp b)) 3 false discard s

/-- `SLO` $07 (zp), R609, 5 cycles. -/
def execSloZp (b : Byte) (s : State) : Answer :=
  rmwOp (.zp b) 5 shiftLeft orA s

/-- `ANC` $0B (imm), R613, 2 cycles. -/
def execAncImm0B (b : Byte) (s : State) : Answer :=
  readOp (.imm b) 2 false ancA s

/-- `NOP` $0C (abs), R603, 4 cycles. -/
def execNopAbs0C (a : Word) (s : State) : Answer :=
  readOp (.mem (.abs a)) 4 false discard s

/-- `SLO` $0F (abs), R609, 6 cycles. -/
def execSloAbs (a : Word) (s : State) : Answer :=
  rmwOp (.abs a) 6 shiftLeft orA s

/-- `SLO` $13 (izy), R609, 8 cycles. -/
def execSloIndY (b : Byte) (s : State) : Answer :=
  rmwOp (.indY b) 8 shiftLeft orA s

/-- `NOP` $14 (zpx), R603, 4 cycles. -/
def execNopZpX14 (b : Byte) (s : State) : Answer :=
  readOp (.mem (.zpX b)) 4 false discard s

/-- `SLO` $17 (zpx), R609, 6 cycles. -/
def execSloZpX (b : Byte) (s : State) : Answer :=
  rmwOp (.zpX b) 6 shiftLeft orA s

/-- `NOP` $1A (imp), R601, 2 cycles. -/
def execNopImp1A (s : State) : Answer :=
  impliedOp 2 noEffect s

/-- `SLO` $1B (aby), R609, 7 cycles. -/
def execSloAbsY (a : Word) (s : State) : Answer :=
  rmwOp (.absY a) 7 shiftLeft orA s

/-- `NOP` $1C (abx), R603, 4 cycles and the page extra. -/
def execNopAbsX1C (a : Word) (s : State) : Answer :=
  readOp (.mem (.absX a)) 4 true discard s

/-- `SLO` $1F (abx), R609, 7 cycles. -/
def execSloAbsX (a : Word) (s : State) : Answer :=
  rmwOp (.absX a) 7 shiftLeft orA s

/-- `RLA` $23 (izx), R610, 8 cycles. -/
def execRlaIndX (b : Byte) (s : State) : Answer :=
  rmwOp (.indX b) 8 rotateLeft andA s

/-- `RLA` $27 (zp), R610, 5 cycles. -/
def execRlaZp (b : Byte) (s : State) : Answer :=
  rmwOp (.zp b) 5 rotateLeft andA s

/-- `ANC` $2B (imm), R613, 2 cycles. -/
def execAncImm2B (b : Byte) (s : State) : Answer :=
  readOp (.imm b) 2 false ancA s

/-- `RLA` $2F (abs), R610, 6 cycles. -/
def execRlaAbs (a : Word) (s : State) : Answer :=
  rmwOp (.abs a) 6 rotateLeft andA s

/-- `RLA` $33 (izy), R610, 8 cycles. -/
def execRlaIndY (b : Byte) (s : State) : Answer :=
  rmwOp (.indY b) 8 rotateLeft andA s

/-- `NOP` $34 (zpx), R603, 4 cycles. -/
def execNopZpX34 (b : Byte) (s : State) : Answer :=
  readOp (.mem (.zpX b)) 4 false discard s

/-- `RLA` $37 (zpx), R610, 6 cycles. -/
def execRlaZpX (b : Byte) (s : State) : Answer :=
  rmwOp (.zpX b) 6 rotateLeft andA s

/-- `NOP` $3A (imp), R601, 2 cycles. -/
def execNopImp3A (s : State) : Answer :=
  impliedOp 2 noEffect s

/-- `RLA` $3B (aby), R610, 7 cycles. -/
def execRlaAbsY (a : Word) (s : State) : Answer :=
  rmwOp (.absY a) 7 rotateLeft andA s

/-- `NOP` $3C (abx), R603, 4 cycles and the page extra. -/
def execNopAbsX3C (a : Word) (s : State) : Answer :=
  readOp (.mem (.absX a)) 4 true discard s

/-- `RLA` $3F (abx), R610, 7 cycles. -/
def execRlaAbsX (a : Word) (s : State) : Answer :=
  rmwOp (.absX a) 7 rotateLeft andA s

/-- `SRE` $43 (izx), R611, 8 cycles. -/
def execSreIndX (b : Byte) (s : State) : Answer :=
  rmwOp (.indX b) 8 shiftRight eorA s

/-- `NOP` $44 (zp), R603, 3 cycles. -/
def execNopZp44 (b : Byte) (s : State) : Answer :=
  readOp (.mem (.zp b)) 3 false discard s

/-- `SRE` $47 (zp), R611, 5 cycles. -/
def execSreZp (b : Byte) (s : State) : Answer :=
  rmwOp (.zp b) 5 shiftRight eorA s

/-- `ALR` $4B (imm), R614, 2 cycles. -/
def execAlrImm (b : Byte) (s : State) : Answer :=
  readOp (.imm b) 2 false alrA s

/-- `SRE` $4F (abs), R611, 6 cycles. -/
def execSreAbs (a : Word) (s : State) : Answer :=
  rmwOp (.abs a) 6 shiftRight eorA s

/-- `SRE` $53 (izy), R611, 8 cycles. -/
def execSreIndY (b : Byte) (s : State) : Answer :=
  rmwOp (.indY b) 8 shiftRight eorA s

/-- `NOP` $54 (zpx), R603, 4 cycles. -/
def execNopZpX54 (b : Byte) (s : State) : Answer :=
  readOp (.mem (.zpX b)) 4 false discard s

/-- `SRE` $57 (zpx), R611, 6 cycles. -/
def execSreZpX (b : Byte) (s : State) : Answer :=
  rmwOp (.zpX b) 6 shiftRight eorA s

/-- `NOP` $5A (imp), R601, 2 cycles. -/
def execNopImp5A (s : State) : Answer :=
  impliedOp 2 noEffect s

/-- `SRE` $5B (aby), R611, 7 cycles. -/
def execSreAbsY (a : Word) (s : State) : Answer :=
  rmwOp (.absY a) 7 shiftRight eorA s

/-- `NOP` $5C (abx), R603, 4 cycles and the page extra. -/
def execNopAbsX5C (a : Word) (s : State) : Answer :=
  readOp (.mem (.absX a)) 4 true discard s

/-- `SRE` $5F (abx), R611, 7 cycles. -/
def execSreAbsX (a : Word) (s : State) : Answer :=
  rmwOp (.absX a) 7 shiftRight eorA s

/-- `RRA` $63 (izx), R612, 8 cycles. -/
def execRraIndX (b : Byte) (s : State) : Answer :=
  rmwOp (.indX b) 8 rotateRight addA s

/-- `NOP` $64 (zp), R603, 3 cycles. -/
def execNopZp64 (b : Byte) (s : State) : Answer :=
  readOp (.mem (.zp b)) 3 false discard s

/-- `RRA` $67 (zp), R612, 5 cycles. -/
def execRraZp (b : Byte) (s : State) : Answer :=
  rmwOp (.zp b) 5 rotateRight addA s

/-- `ARR` $6B (imm), R615, 2 cycles. -/
def execArrImm (b : Byte) (s : State) : Answer :=
  readOp (.imm b) 2 false arrA s

/-- `RRA` $6F (abs), R612, 6 cycles. -/
def execRraAbs (a : Word) (s : State) : Answer :=
  rmwOp (.abs a) 6 rotateRight addA s

/-- `RRA` $73 (izy), R612, 8 cycles. -/
def execRraIndY (b : Byte) (s : State) : Answer :=
  rmwOp (.indY b) 8 rotateRight addA s

/-- `NOP` $74 (zpx), R603, 4 cycles. -/
def execNopZpX74 (b : Byte) (s : State) : Answer :=
  readOp (.mem (.zpX b)) 4 false discard s

/-- `RRA` $77 (zpx), R612, 6 cycles. -/
def execRraZpX (b : Byte) (s : State) : Answer :=
  rmwOp (.zpX b) 6 rotateRight addA s

/-- `NOP` $7A (imp), R601, 2 cycles. -/
def execNopImp7A (s : State) : Answer :=
  impliedOp 2 noEffect s

/-- `RRA` $7B (aby), R612, 7 cycles. -/
def execRraAbsY (a : Word) (s : State) : Answer :=
  rmwOp (.absY a) 7 rotateRight addA s

/-- `NOP` $7C (abx), R603, 4 cycles and the page extra. -/
def execNopAbsX7C (a : Word) (s : State) : Answer :=
  readOp (.mem (.absX a)) 4 true discard s

/-- `RRA` $7F (abx), R612, 7 cycles. -/
def execRraAbsX (a : Word) (s : State) : Answer :=
  rmwOp (.absX a) 7 rotateRight addA s

/-- `NOP` $80 (imm), R602, 2 cycles. -/
def execNopImm80 (b : Byte) (s : State) : Answer :=
  readOp (.imm b) 2 false discard s

/-- `NOP` $82 (imm), R602, 2 cycles. -/
def execNopImm82 (b : Byte) (s : State) : Answer :=
  readOp (.imm b) 2 false discard s

/-- `SAX` $83 (izx), R606, 6 cycles. -/
def execSaxIndX (b : Byte) (s : State) : Answer :=
  storeOp (.indX b) 6 Cpu.aAndX s

/-- `SAX` $87 (zp), R606, 3 cycles. -/
def execSaxZp (b : Byte) (s : State) : Answer :=
  storeOp (.zp b) 3 Cpu.aAndX s

/-- `NOP` $89 (imm), R602, 2 cycles. -/
def execNopImm89 (b : Byte) (s : State) : Answer :=
  readOp (.imm b) 2 false discard s

/-- `SAX` $8F (abs), R606, 4 cycles. -/
def execSaxAbs (a : Word) (s : State) : Answer :=
  storeOp (.abs a) 4 Cpu.aAndX s

/-- `SAX` $97 (zpy), R606, 4 cycles. -/
def execSaxZpY (b : Byte) (s : State) : Answer :=
  storeOp (.zpY b) 4 Cpu.aAndX s

/-- `LAX` $A3 (izx), R605, 6 cycles. -/
def execLaxIndX (b : Byte) (s : State) : Answer :=
  readOp (.mem (.indX b)) 6 false loadAX s

/-- `LAX` $A7 (zp), R605, 3 cycles. -/
def execLaxZp (b : Byte) (s : State) : Answer :=
  readOp (.mem (.zp b)) 3 false loadAX s

/-- `LAX` $AF (abs), R605, 4 cycles. -/
def execLaxAbs (a : Word) (s : State) : Answer :=
  readOp (.mem (.abs a)) 4 false loadAX s

/-- `LAX` $B3 (izy), R605, 5 cycles and the page extra. -/
def execLaxIndY (b : Byte) (s : State) : Answer :=
  readOp (.mem (.indY b)) 5 true loadAX s

/-- `LAX` $B7 (zpy), R605, 4 cycles. -/
def execLaxZpY (b : Byte) (s : State) : Answer :=
  readOp (.mem (.zpY b)) 4 false loadAX s

/-- `LAX` $BF (aby), R605, 4 cycles and the page extra. -/
def execLaxAbsY (a : Word) (s : State) : Answer :=
  readOp (.mem (.absY a)) 4 true loadAX s

/-- `NOP` $C2 (imm), R602, 2 cycles. -/
def execNopImmC2 (b : Byte) (s : State) : Answer :=
  readOp (.imm b) 2 false discard s

/-- `DCP` $C3 (izx), R607, 8 cycles. -/
def execDcpIndX (b : Byte) (s : State) : Answer :=
  rmwOp (.indX b) 8 decByte compareA s

/-- `DCP` $C7 (zp), R607, 5 cycles. -/
def execDcpZp (b : Byte) (s : State) : Answer :=
  rmwOp (.zp b) 5 decByte compareA s

/-- `AXS` $CB (imm), R616, 2 cycles. -/
def execAxsImm (b : Byte) (s : State) : Answer :=
  readOp (.imm b) 2 false axsX s

/-- `DCP` $CF (abs), R607, 6 cycles. -/
def execDcpAbs (a : Word) (s : State) : Answer :=
  rmwOp (.abs a) 6 decByte compareA s

/-- `DCP` $D3 (izy), R607, 8 cycles. -/
def execDcpIndY (b : Byte) (s : State) : Answer :=
  rmwOp (.indY b) 8 decByte compareA s

/-- `NOP` $D4 (zpx), R603, 4 cycles. -/
def execNopZpXD4 (b : Byte) (s : State) : Answer :=
  readOp (.mem (.zpX b)) 4 false discard s

/-- `DCP` $D7 (zpx), R607, 6 cycles. -/
def execDcpZpX (b : Byte) (s : State) : Answer :=
  rmwOp (.zpX b) 6 decByte compareA s

/-- `NOP` $DA (imp), R601, 2 cycles. -/
def execNopImpDA (s : State) : Answer :=
  impliedOp 2 noEffect s

/-- `DCP` $DB (aby), R607, 7 cycles. -/
def execDcpAbsY (a : Word) (s : State) : Answer :=
  rmwOp (.absY a) 7 decByte compareA s

/-- `NOP` $DC (abx), R603, 4 cycles and the page extra. -/
def execNopAbsXDC (a : Word) (s : State) : Answer :=
  readOp (.mem (.absX a)) 4 true discard s

/-- `DCP` $DF (abx), R607, 7 cycles. -/
def execDcpAbsX (a : Word) (s : State) : Answer :=
  rmwOp (.absX a) 7 decByte compareA s

/-- `NOP` $E2 (imm), R602, 2 cycles. -/
def execNopImmE2 (b : Byte) (s : State) : Answer :=
  readOp (.imm b) 2 false discard s

/-- `ISB` $E3 (izx), R608, 8 cycles. -/
def execIsbIndX (b : Byte) (s : State) : Answer :=
  rmwOp (.indX b) 8 incByte subtractA s

/-- `ISB` $E7 (zp), R608, 5 cycles. -/
def execIsbZp (b : Byte) (s : State) : Answer :=
  rmwOp (.zp b) 5 incByte subtractA s

/-- `SBC` $EB (imm), R617, 2 cycles. -/
def execSbcImmEB (b : Byte) (s : State) : Answer :=
  readOp (.imm b) 2 false subtractA s

/-- `ISB` $EF (abs), R608, 6 cycles. -/
def execIsbAbs (a : Word) (s : State) : Answer :=
  rmwOp (.abs a) 6 incByte subtractA s

/-- `ISB` $F3 (izy), R608, 8 cycles. -/
def execIsbIndY (b : Byte) (s : State) : Answer :=
  rmwOp (.indY b) 8 incByte subtractA s

/-- `NOP` $F4 (zpx), R603, 4 cycles. -/
def execNopZpXF4 (b : Byte) (s : State) : Answer :=
  readOp (.mem (.zpX b)) 4 false discard s

/-- `ISB` $F7 (zpx), R608, 6 cycles. -/
def execIsbZpX (b : Byte) (s : State) : Answer :=
  rmwOp (.zpX b) 6 incByte subtractA s

/-- `NOP` $FA (imp), R601, 2 cycles. -/
def execNopImpFA (s : State) : Answer :=
  impliedOp 2 noEffect s

/-- `ISB` $FB (aby), R608, 7 cycles. -/
def execIsbAbsY (a : Word) (s : State) : Answer :=
  rmwOp (.absY a) 7 incByte subtractA s

/-- `NOP` $FC (abx), R603, 4 cycles and the page extra. -/
def execNopAbsXFC (a : Word) (s : State) : Answer :=
  readOp (.mem (.absX a)) 4 true discard s

/-- `ISB` $FF (abx), R608, 7 cycles. -/
def execIsbAbsX (a : Word) (s : State) : Answer :=
  rmwOp (.absX a) 7 incByte subtractA s

end Sys2Proof.Machine
end

