-- ==== Sys2Proof/Machine/IncShift.lean ====
section
/-! DEFINITION. The meanings of INC, DEC, INX, INY, DEX, DEY, ASL, LSR, ROL, ROR (spec 42 R519-R528): one definition per row of
the opcode table, each over the shared operations, with its cycles from the table (30 R303). -/

namespace Sys2Proof.Machine

/-- `ASL` $06 (zp), R525, 5 cycles. -/
def execAslZp (b : Byte) (s : State) : Answer :=
  rmwOp (.zp b) 5 shiftLeft setZNof s

/-- `ASL` $0A (acc), R525, 2 cycles. -/
def execAslAcc (s : State) : Answer :=
  accOp 2 shiftLeft s

/-- `ASL` $0E (abs), R525, 6 cycles. -/
def execAslAbs (a : Word) (s : State) : Answer :=
  rmwOp (.abs a) 6 shiftLeft setZNof s

/-- `ASL` $16 (zpx), R525, 6 cycles. -/
def execAslZpX (b : Byte) (s : State) : Answer :=
  rmwOp (.zpX b) 6 shiftLeft setZNof s

/-- `ASL` $1E (abx), R525, 7 cycles. -/
def execAslAbsX (a : Word) (s : State) : Answer :=
  rmwOp (.absX a) 7 shiftLeft setZNof s

/-- `ROL` $26 (zp), R527, 5 cycles. -/
def execRolZp (b : Byte) (s : State) : Answer :=
  rmwOp (.zp b) 5 rotateLeft setZNof s

/-- `ROL` $2A (acc), R527, 2 cycles. -/
def execRolAcc (s : State) : Answer :=
  accOp 2 rotateLeft s

/-- `ROL` $2E (abs), R527, 6 cycles. -/
def execRolAbs (a : Word) (s : State) : Answer :=
  rmwOp (.abs a) 6 rotateLeft setZNof s

/-- `ROL` $36 (zpx), R527, 6 cycles. -/
def execRolZpX (b : Byte) (s : State) : Answer :=
  rmwOp (.zpX b) 6 rotateLeft setZNof s

/-- `ROL` $3E (abx), R527, 7 cycles. -/
def execRolAbsX (a : Word) (s : State) : Answer :=
  rmwOp (.absX a) 7 rotateLeft setZNof s

/-- `LSR` $46 (zp), R526, 5 cycles. -/
def execLsrZp (b : Byte) (s : State) : Answer :=
  rmwOp (.zp b) 5 shiftRight setZNof s

/-- `LSR` $4A (acc), R526, 2 cycles. -/
def execLsrAcc (s : State) : Answer :=
  accOp 2 shiftRight s

/-- `LSR` $4E (abs), R526, 6 cycles. -/
def execLsrAbs (a : Word) (s : State) : Answer :=
  rmwOp (.abs a) 6 shiftRight setZNof s

/-- `LSR` $56 (zpx), R526, 6 cycles. -/
def execLsrZpX (b : Byte) (s : State) : Answer :=
  rmwOp (.zpX b) 6 shiftRight setZNof s

/-- `LSR` $5E (abx), R526, 7 cycles. -/
def execLsrAbsX (a : Word) (s : State) : Answer :=
  rmwOp (.absX a) 7 shiftRight setZNof s

/-- `ROR` $66 (zp), R528, 5 cycles. -/
def execRorZp (b : Byte) (s : State) : Answer :=
  rmwOp (.zp b) 5 rotateRight setZNof s

/-- `ROR` $6A (acc), R528, 2 cycles. -/
def execRorAcc (s : State) : Answer :=
  accOp 2 rotateRight s

/-- `ROR` $6E (abs), R528, 6 cycles. -/
def execRorAbs (a : Word) (s : State) : Answer :=
  rmwOp (.abs a) 6 rotateRight setZNof s

/-- `ROR` $76 (zpx), R528, 6 cycles. -/
def execRorZpX (b : Byte) (s : State) : Answer :=
  rmwOp (.zpX b) 6 rotateRight setZNof s

/-- `ROR` $7E (abx), R528, 7 cycles. -/
def execRorAbsX (a : Word) (s : State) : Answer :=
  rmwOp (.absX a) 7 rotateRight setZNof s

/-- `DEY` $88 (imp), R524, 2 cycles. -/
def execDey (s : State) : Answer :=
  impliedOp 2 decY s

/-- `DEC` $C6 (zp), R520, 5 cycles. -/
def execDecZp (b : Byte) (s : State) : Answer :=
  rmwOp (.zp b) 5 decByte setZNof s

/-- `INY` $C8 (imp), R522, 2 cycles. -/
def execIny (s : State) : Answer :=
  impliedOp 2 incY s

/-- `DEX` $CA (imp), R523, 2 cycles. -/
def execDex (s : State) : Answer :=
  impliedOp 2 decX s

/-- `DEC` $CE (abs), R520, 6 cycles. -/
def execDecAbs (a : Word) (s : State) : Answer :=
  rmwOp (.abs a) 6 decByte setZNof s

/-- `DEC` $D6 (zpx), R520, 6 cycles. -/
def execDecZpX (b : Byte) (s : State) : Answer :=
  rmwOp (.zpX b) 6 decByte setZNof s

/-- `DEC` $DE (abx), R520, 7 cycles. -/
def execDecAbsX (a : Word) (s : State) : Answer :=
  rmwOp (.absX a) 7 decByte setZNof s

/-- `INC` $E6 (zp), R519, 5 cycles. -/
def execIncZp (b : Byte) (s : State) : Answer :=
  rmwOp (.zp b) 5 incByte setZNof s

/-- `INX` $E8 (imp), R521, 2 cycles. -/
def execInx (s : State) : Answer :=
  impliedOp 2 incX s

/-- `INC` $EE (abs), R519, 6 cycles. -/
def execIncAbs (a : Word) (s : State) : Answer :=
  rmwOp (.abs a) 6 incByte setZNof s

/-- `INC` $F6 (zpx), R519, 6 cycles. -/
def execIncZpX (b : Byte) (s : State) : Answer :=
  rmwOp (.zpX b) 6 incByte setZNof s

/-- `INC` $FE (abx), R519, 7 cycles. -/
def execIncAbsX (a : Word) (s : State) : Answer :=
  rmwOp (.absX a) 7 incByte setZNof s

end Sys2Proof.Machine
end

