-- ==== Sys2Proof/Machine/LoadStore.lean ====
section
/-! DEFINITION. The meanings of LDA, LDX, LDY, STA, STX, STY (spec 41 R450-R456): one definition per row of
the opcode table, each over the shared operations, with its cycles from the table (30 R303). -/

namespace Sys2Proof.Machine

/-- `STA` $81 (izx), R454, 6 cycles. -/
def execStaIndX (b : Byte) (s : State) : Answer :=
  storeOp (.indX b) 6 Cpu.a s

/-- `STY` $84 (zp), R456, 3 cycles. -/
def execStyZp (b : Byte) (s : State) : Answer :=
  storeOp (.zp b) 3 Cpu.y s

/-- `STA` $85 (zp), R454, 3 cycles. -/
def execStaZp (b : Byte) (s : State) : Answer :=
  storeOp (.zp b) 3 Cpu.a s

/-- `STX` $86 (zp), R455, 3 cycles. -/
def execStxZp (b : Byte) (s : State) : Answer :=
  storeOp (.zp b) 3 Cpu.x s

/-- `STY` $8C (abs), R456, 4 cycles. -/
def execStyAbs (a : Word) (s : State) : Answer :=
  storeOp (.abs a) 4 Cpu.y s

/-- `STA` $8D (abs), R454, 4 cycles. -/
def execStaAbs (a : Word) (s : State) : Answer :=
  storeOp (.abs a) 4 Cpu.a s

/-- `STX` $8E (abs), R455, 4 cycles. -/
def execStxAbs (a : Word) (s : State) : Answer :=
  storeOp (.abs a) 4 Cpu.x s

/-- `STA` $91 (izy), R454, 6 cycles. -/
def execStaIndY (b : Byte) (s : State) : Answer :=
  storeOp (.indY b) 6 Cpu.a s

/-- `STY` $94 (zpx), R456, 4 cycles. -/
def execStyZpX (b : Byte) (s : State) : Answer :=
  storeOp (.zpX b) 4 Cpu.y s

/-- `STA` $95 (zpx), R454, 4 cycles. -/
def execStaZpX (b : Byte) (s : State) : Answer :=
  storeOp (.zpX b) 4 Cpu.a s

/-- `STX` $96 (zpy), R455, 4 cycles. -/
def execStxZpY (b : Byte) (s : State) : Answer :=
  storeOp (.zpY b) 4 Cpu.x s

/-- `STA` $99 (aby), R454, 5 cycles. -/
def execStaAbsY (a : Word) (s : State) : Answer :=
  storeOp (.absY a) 5 Cpu.a s

/-- `STA` $9D (abx), R454, 5 cycles. -/
def execStaAbsX (a : Word) (s : State) : Answer :=
  storeOp (.absX a) 5 Cpu.a s

/-- `LDY` $A0 (imm), R453, 2 cycles. -/
def execLdyImm (b : Byte) (s : State) : Answer :=
  readOp (.imm b) 2 false loadY s

/-- `LDA` $A1 (izx), R451, 6 cycles. -/
def execLdaIndX (b : Byte) (s : State) : Answer :=
  readOp (.mem (.indX b)) 6 false loadA s

/-- `LDX` $A2 (imm), R452, 2 cycles. -/
def execLdxImm (b : Byte) (s : State) : Answer :=
  readOp (.imm b) 2 false loadX s

/-- `LDY` $A4 (zp), R453, 3 cycles. -/
def execLdyZp (b : Byte) (s : State) : Answer :=
  readOp (.mem (.zp b)) 3 false loadY s

/-- `LDA` $A5 (zp), R451, 3 cycles. -/
def execLdaZp (b : Byte) (s : State) : Answer :=
  readOp (.mem (.zp b)) 3 false loadA s

/-- `LDX` $A6 (zp), R452, 3 cycles. -/
def execLdxZp (b : Byte) (s : State) : Answer :=
  readOp (.mem (.zp b)) 3 false loadX s

/-- `LDA` $A9 (imm), R451, 2 cycles. -/
def execLdaImm (b : Byte) (s : State) : Answer :=
  readOp (.imm b) 2 false loadA s

/-- `LDY` $AC (abs), R453, 4 cycles. -/
def execLdyAbs (a : Word) (s : State) : Answer :=
  readOp (.mem (.abs a)) 4 false loadY s

/-- `LDA` $AD (abs), R451, 4 cycles. -/
def execLdaAbs (a : Word) (s : State) : Answer :=
  readOp (.mem (.abs a)) 4 false loadA s

/-- `LDX` $AE (abs), R452, 4 cycles. -/
def execLdxAbs (a : Word) (s : State) : Answer :=
  readOp (.mem (.abs a)) 4 false loadX s

/-- `LDA` $B1 (izy), R451, 5 cycles and the page extra. -/
def execLdaIndY (b : Byte) (s : State) : Answer :=
  readOp (.mem (.indY b)) 5 true loadA s

/-- `LDY` $B4 (zpx), R453, 4 cycles. -/
def execLdyZpX (b : Byte) (s : State) : Answer :=
  readOp (.mem (.zpX b)) 4 false loadY s

/-- `LDA` $B5 (zpx), R451, 4 cycles. -/
def execLdaZpX (b : Byte) (s : State) : Answer :=
  readOp (.mem (.zpX b)) 4 false loadA s

/-- `LDX` $B6 (zpy), R452, 4 cycles. -/
def execLdxZpY (b : Byte) (s : State) : Answer :=
  readOp (.mem (.zpY b)) 4 false loadX s

/-- `LDA` $B9 (aby), R451, 4 cycles and the page extra. -/
def execLdaAbsY (a : Word) (s : State) : Answer :=
  readOp (.mem (.absY a)) 4 true loadA s

/-- `LDY` $BC (abx), R453, 4 cycles and the page extra. -/
def execLdyAbsX (a : Word) (s : State) : Answer :=
  readOp (.mem (.absX a)) 4 true loadY s

/-- `LDA` $BD (abx), R451, 4 cycles and the page extra. -/
def execLdaAbsX (a : Word) (s : State) : Answer :=
  readOp (.mem (.absX a)) 4 true loadA s

/-- `LDX` $BE (aby), R452, 4 cycles and the page extra. -/
def execLdxAbsY (a : Word) (s : State) : Answer :=
  readOp (.mem (.absY a)) 4 true loadX s

end Sys2Proof.Machine
end

