-- ==== Sys2Proof/Machine/Refused.lean ====
section
/-! DEFINITION. The meanings of the twenty opcodes the spec refuses (spec 30 R310): `raise Refused(opcode)`, no successor (log 7): one definition per row of
the opcode table, each over the shared operations, with its cycles from the table (30 R303). -/

namespace Sys2Proof.Machine

/-- `JAM` $02, R310. -/
def execJam02 (_s : State) : Answer :=
  refuse 0x02

/-- `JAM` $12, R310. -/
def execJam12 (_s : State) : Answer :=
  refuse 0x12

/-- `JAM` $22, R310. -/
def execJam22 (_s : State) : Answer :=
  refuse 0x22

/-- `JAM` $32, R310. -/
def execJam32 (_s : State) : Answer :=
  refuse 0x32

/-- `JAM` $42, R310. -/
def execJam42 (_s : State) : Answer :=
  refuse 0x42

/-- `JAM` $52, R310. -/
def execJam52 (_s : State) : Answer :=
  refuse 0x52

/-- `JAM` $62, R310. -/
def execJam62 (_s : State) : Answer :=
  refuse 0x62

/-- `JAM` $72, R310. -/
def execJam72 (_s : State) : Answer :=
  refuse 0x72

/-- `XAA` $8B, R310. -/
def execXaa8B (_s : State) : Answer :=
  refuse 0x8B

/-- `JAM` $92, R310. -/
def execJam92 (_s : State) : Answer :=
  refuse 0x92

/-- `SHA` $93, R310. -/
def execSha93 (_s : State) : Answer :=
  refuse 0x93

/-- `TAS` $9B, R310. -/
def execTas9B (_s : State) : Answer :=
  refuse 0x9B

/-- `SHY` $9C, R310. -/
def execShy9C (_s : State) : Answer :=
  refuse 0x9C

/-- `SHX` $9E, R310. -/
def execShx9E (_s : State) : Answer :=
  refuse 0x9E

/-- `SHA` $9F, R310. -/
def execSha9F (_s : State) : Answer :=
  refuse 0x9F

/-- `LXA` $AB, R310. -/
def execLxaAB (_s : State) : Answer :=
  refuse 0xAB

/-- `JAM` $B2, R310. -/
def execJamB2 (_s : State) : Answer :=
  refuse 0xB2

/-- `LAS` $BB, R310. -/
def execLasBB (_s : State) : Answer :=
  refuse 0xBB

/-- `JAM` $D2, R310. -/
def execJamD2 (_s : State) : Answer :=
  refuse 0xD2

/-- `JAM` $F2, R310. -/
def execJamF2 (_s : State) : Answer :=
  refuse 0xF2

end Sys2Proof.Machine
end

