-- ==== Sys2Proof/Machine/TransferStack.lean ====
section
/-! DEFINITION. The meanings of the register transfers and the stack instructions (spec 41 R457-R471): one definition per row of
the opcode table, each over the shared operations, with its cycles from the table (30 R303). -/

namespace Sys2Proof.Machine

/-- `PHP` $08 (imp), R470, 3 cycles. -/
def execPhp (s : State) : Answer :=
  impliedOp 3 pushP s

/-- `PLP` $28 (imp), R471, 4 cycles. -/
def execPlp (s : State) : Answer :=
  impliedOp 4 pullP s

/-- `PHA` $48 (imp), R468, 3 cycles. -/
def execPha (s : State) : Answer :=
  impliedOp 3 pushA s

/-- `PLA` $68 (imp), R469, 4 cycles. -/
def execPla (s : State) : Answer :=
  impliedOp 4 pullA s

/-- `TXA` $8A (imp), R459, 2 cycles. -/
def execTxa (s : State) : Answer :=
  impliedOp 2 transferXA s

/-- `TYA` $98 (imp), R460, 2 cycles. -/
def execTya (s : State) : Answer :=
  impliedOp 2 transferYA s

/-- `TXS` $9A (imp), R462, 2 cycles. -/
def execTxs (s : State) : Answer :=
  impliedOp 2 transferXS s

/-- `TAY` $A8 (imp), R458, 2 cycles. -/
def execTay (s : State) : Answer :=
  impliedOp 2 transferAY s

/-- `TAX` $AA (imp), R457, 2 cycles. -/
def execTax (s : State) : Answer :=
  impliedOp 2 transferAX s

/-- `TSX` $BA (imp), R461, 2 cycles. -/
def execTsx (s : State) : Answer :=
  impliedOp 2 transferSX s

end Sys2Proof.Machine
end

