-- ==== Sys2Proof/Machine/Dispatch.lean ====
section
/-! DEFINITION. Execution: one arm per constructor of `Instr`, in the order of the opcode byte. -/

namespace Sys2Proof.Machine

def exec (i : Instr) (s : State) : Host.Outcome State Fault Refusal :=
  match i with
  | .brk => Sys2Proof.Machine.execBrk s
  | .oraIndX b => Sys2Proof.Machine.execOraIndX b s
  | .jam02 => Sys2Proof.Machine.execJam02 s
  | .sloIndX b => Sys2Proof.Machine.execSloIndX b s
  | .nopZp04 b => Sys2Proof.Machine.execNopZp04 b s
  | .oraZp b => Sys2Proof.Machine.execOraZp b s
  | .aslZp b => Sys2Proof.Machine.execAslZp b s
  | .sloZp b => Sys2Proof.Machine.execSloZp b s
  | .php => Sys2Proof.Machine.execPhp s
  | .oraImm b => Sys2Proof.Machine.execOraImm b s
  | .aslAcc => Sys2Proof.Machine.execAslAcc s
  | .ancImm0B b => Sys2Proof.Machine.execAncImm0B b s
  | .nopAbs0C a => Sys2Proof.Machine.execNopAbs0C a s
  | .oraAbs a => Sys2Proof.Machine.execOraAbs a s
  | .aslAbs a => Sys2Proof.Machine.execAslAbs a s
  | .sloAbs a => Sys2Proof.Machine.execSloAbs a s
  | .bpl b => Sys2Proof.Machine.execBpl b s
  | .oraIndY b => Sys2Proof.Machine.execOraIndY b s
  | .jam12 => Sys2Proof.Machine.execJam12 s
  | .sloIndY b => Sys2Proof.Machine.execSloIndY b s
  | .nopZpX14 b => Sys2Proof.Machine.execNopZpX14 b s
  | .oraZpX b => Sys2Proof.Machine.execOraZpX b s
  | .aslZpX b => Sys2Proof.Machine.execAslZpX b s
  | .sloZpX b => Sys2Proof.Machine.execSloZpX b s
  | .clc => Sys2Proof.Machine.execClc s
  | .oraAbsY a => Sys2Proof.Machine.execOraAbsY a s
  | .nopImp1A => Sys2Proof.Machine.execNopImp1A s
  | .sloAbsY a => Sys2Proof.Machine.execSloAbsY a s
  | .nopAbsX1C a => Sys2Proof.Machine.execNopAbsX1C a s
  | .oraAbsX a => Sys2Proof.Machine.execOraAbsX a s
  | .aslAbsX a => Sys2Proof.Machine.execAslAbsX a s
  | .sloAbsX a => Sys2Proof.Machine.execSloAbsX a s
  | .jsrAbs a => Sys2Proof.Machine.execJsrAbs a s
  | .andIndX b => Sys2Proof.Machine.execAndIndX b s
  | .jam22 => Sys2Proof.Machine.execJam22 s
  | .rlaIndX b => Sys2Proof.Machine.execRlaIndX b s
  | .bitZp b => Sys2Proof.Machine.execBitZp b s
  | .andZp b => Sys2Proof.Machine.execAndZp b s
  | .rolZp b => Sys2Proof.Machine.execRolZp b s
  | .rlaZp b => Sys2Proof.Machine.execRlaZp b s
  | .plp => Sys2Proof.Machine.execPlp s
  | .andImm b => Sys2Proof.Machine.execAndImm b s
  | .rolAcc => Sys2Proof.Machine.execRolAcc s
  | .ancImm2B b => Sys2Proof.Machine.execAncImm2B b s
  | .bitAbs a => Sys2Proof.Machine.execBitAbs a s
  | .andAbs a => Sys2Proof.Machine.execAndAbs a s
  | .rolAbs a => Sys2Proof.Machine.execRolAbs a s
  | .rlaAbs a => Sys2Proof.Machine.execRlaAbs a s
  | .bmi b => Sys2Proof.Machine.execBmi b s
  | .andIndY b => Sys2Proof.Machine.execAndIndY b s
  | .jam32 => Sys2Proof.Machine.execJam32 s
  | .rlaIndY b => Sys2Proof.Machine.execRlaIndY b s
  | .nopZpX34 b => Sys2Proof.Machine.execNopZpX34 b s
  | .andZpX b => Sys2Proof.Machine.execAndZpX b s
  | .rolZpX b => Sys2Proof.Machine.execRolZpX b s
  | .rlaZpX b => Sys2Proof.Machine.execRlaZpX b s
  | .sec => Sys2Proof.Machine.execSec s
  | .andAbsY a => Sys2Proof.Machine.execAndAbsY a s
  | .nopImp3A => Sys2Proof.Machine.execNopImp3A s
  | .rlaAbsY a => Sys2Proof.Machine.execRlaAbsY a s
  | .nopAbsX3C a => Sys2Proof.Machine.execNopAbsX3C a s
  | .andAbsX a => Sys2Proof.Machine.execAndAbsX a s
  | .rolAbsX a => Sys2Proof.Machine.execRolAbsX a s
  | .rlaAbsX a => Sys2Proof.Machine.execRlaAbsX a s
  | .rti => Sys2Proof.Machine.execRti s
  | .eorIndX b => Sys2Proof.Machine.execEorIndX b s
  | .jam42 => Sys2Proof.Machine.execJam42 s
  | .sreIndX b => Sys2Proof.Machine.execSreIndX b s
  | .nopZp44 b => Sys2Proof.Machine.execNopZp44 b s
  | .eorZp b => Sys2Proof.Machine.execEorZp b s
  | .lsrZp b => Sys2Proof.Machine.execLsrZp b s
  | .sreZp b => Sys2Proof.Machine.execSreZp b s
  | .pha => Sys2Proof.Machine.execPha s
  | .eorImm b => Sys2Proof.Machine.execEorImm b s
  | .lsrAcc => Sys2Proof.Machine.execLsrAcc s
  | .alrImm b => Sys2Proof.Machine.execAlrImm b s
  | .jmpAbs a => Sys2Proof.Machine.execJmpAbs a s
  | .eorAbs a => Sys2Proof.Machine.execEorAbs a s
  | .lsrAbs a => Sys2Proof.Machine.execLsrAbs a s
  | .sreAbs a => Sys2Proof.Machine.execSreAbs a s
  | .bvc b => Sys2Proof.Machine.execBvc b s
  | .eorIndY b => Sys2Proof.Machine.execEorIndY b s
  | .jam52 => Sys2Proof.Machine.execJam52 s
  | .sreIndY b => Sys2Proof.Machine.execSreIndY b s
  | .nopZpX54 b => Sys2Proof.Machine.execNopZpX54 b s
  | .eorZpX b => Sys2Proof.Machine.execEorZpX b s
  | .lsrZpX b => Sys2Proof.Machine.execLsrZpX b s
  | .sreZpX b => Sys2Proof.Machine.execSreZpX b s
  | .cli => Sys2Proof.Machine.execCli s
  | .eorAbsY a => Sys2Proof.Machine.execEorAbsY a s
  | .nopImp5A => Sys2Proof.Machine.execNopImp5A s
  | .sreAbsY a => Sys2Proof.Machine.execSreAbsY a s
  | .nopAbsX5C a => Sys2Proof.Machine.execNopAbsX5C a s
  | .eorAbsX a => Sys2Proof.Machine.execEorAbsX a s
  | .lsrAbsX a => Sys2Proof.Machine.execLsrAbsX a s
  | .sreAbsX a => Sys2Proof.Machine.execSreAbsX a s
  | .rts => Sys2Proof.Machine.execRts s
  | .adcIndX b => Sys2Proof.Machine.execAdcIndX b s
  | .jam62 => Sys2Proof.Machine.execJam62 s
  | .rraIndX b => Sys2Proof.Machine.execRraIndX b s
  | .nopZp64 b => Sys2Proof.Machine.execNopZp64 b s
  | .adcZp b => Sys2Proof.Machine.execAdcZp b s
  | .rorZp b => Sys2Proof.Machine.execRorZp b s
  | .rraZp b => Sys2Proof.Machine.execRraZp b s
  | .pla => Sys2Proof.Machine.execPla s
  | .adcImm b => Sys2Proof.Machine.execAdcImm b s
  | .rorAcc => Sys2Proof.Machine.execRorAcc s
  | .arrImm b => Sys2Proof.Machine.execArrImm b s
  | .jmpInd a => Sys2Proof.Machine.execJmpInd a s
  | .adcAbs a => Sys2Proof.Machine.execAdcAbs a s
  | .rorAbs a => Sys2Proof.Machine.execRorAbs a s
  | .rraAbs a => Sys2Proof.Machine.execRraAbs a s
  | .bvs b => Sys2Proof.Machine.execBvs b s
  | .adcIndY b => Sys2Proof.Machine.execAdcIndY b s
  | .jam72 => Sys2Proof.Machine.execJam72 s
  | .rraIndY b => Sys2Proof.Machine.execRraIndY b s
  | .nopZpX74 b => Sys2Proof.Machine.execNopZpX74 b s
  | .adcZpX b => Sys2Proof.Machine.execAdcZpX b s
  | .rorZpX b => Sys2Proof.Machine.execRorZpX b s
  | .rraZpX b => Sys2Proof.Machine.execRraZpX b s
  | .sei => Sys2Proof.Machine.execSei s
  | .adcAbsY a => Sys2Proof.Machine.execAdcAbsY a s
  | .nopImp7A => Sys2Proof.Machine.execNopImp7A s
  | .rraAbsY a => Sys2Proof.Machine.execRraAbsY a s
  | .nopAbsX7C a => Sys2Proof.Machine.execNopAbsX7C a s
  | .adcAbsX a => Sys2Proof.Machine.execAdcAbsX a s
  | .rorAbsX a => Sys2Proof.Machine.execRorAbsX a s
  | .rraAbsX a => Sys2Proof.Machine.execRraAbsX a s
  | .nopImm80 b => Sys2Proof.Machine.execNopImm80 b s
  | .staIndX b => Sys2Proof.Machine.execStaIndX b s
  | .nopImm82 b => Sys2Proof.Machine.execNopImm82 b s
  | .saxIndX b => Sys2Proof.Machine.execSaxIndX b s
  | .styZp b => Sys2Proof.Machine.execStyZp b s
  | .staZp b => Sys2Proof.Machine.execStaZp b s
  | .stxZp b => Sys2Proof.Machine.execStxZp b s
  | .saxZp b => Sys2Proof.Machine.execSaxZp b s
  | .dey => Sys2Proof.Machine.execDey s
  | .nopImm89 b => Sys2Proof.Machine.execNopImm89 b s
  | .txa => Sys2Proof.Machine.execTxa s
  | .xaa8B => Sys2Proof.Machine.execXaa8B s
  | .styAbs a => Sys2Proof.Machine.execStyAbs a s
  | .staAbs a => Sys2Proof.Machine.execStaAbs a s
  | .stxAbs a => Sys2Proof.Machine.execStxAbs a s
  | .saxAbs a => Sys2Proof.Machine.execSaxAbs a s
  | .bcc b => Sys2Proof.Machine.execBcc b s
  | .staIndY b => Sys2Proof.Machine.execStaIndY b s
  | .jam92 => Sys2Proof.Machine.execJam92 s
  | .sha93 => Sys2Proof.Machine.execSha93 s
  | .styZpX b => Sys2Proof.Machine.execStyZpX b s
  | .staZpX b => Sys2Proof.Machine.execStaZpX b s
  | .stxZpY b => Sys2Proof.Machine.execStxZpY b s
  | .saxZpY b => Sys2Proof.Machine.execSaxZpY b s
  | .tya => Sys2Proof.Machine.execTya s
  | .staAbsY a => Sys2Proof.Machine.execStaAbsY a s
  | .txs => Sys2Proof.Machine.execTxs s
  | .tas9B => Sys2Proof.Machine.execTas9B s
  | .shy9C => Sys2Proof.Machine.execShy9C s
  | .staAbsX a => Sys2Proof.Machine.execStaAbsX a s
  | .shx9E => Sys2Proof.Machine.execShx9E s
  | .sha9F => Sys2Proof.Machine.execSha9F s
  | .ldyImm b => Sys2Proof.Machine.execLdyImm b s
  | .ldaIndX b => Sys2Proof.Machine.execLdaIndX b s
  | .ldxImm b => Sys2Proof.Machine.execLdxImm b s
  | .laxIndX b => Sys2Proof.Machine.execLaxIndX b s
  | .ldyZp b => Sys2Proof.Machine.execLdyZp b s
  | .ldaZp b => Sys2Proof.Machine.execLdaZp b s
  | .ldxZp b => Sys2Proof.Machine.execLdxZp b s
  | .laxZp b => Sys2Proof.Machine.execLaxZp b s
  | .tay => Sys2Proof.Machine.execTay s
  | .ldaImm b => Sys2Proof.Machine.execLdaImm b s
  | .tax => Sys2Proof.Machine.execTax s
  | .lxaAB => Sys2Proof.Machine.execLxaAB s
  | .ldyAbs a => Sys2Proof.Machine.execLdyAbs a s
  | .ldaAbs a => Sys2Proof.Machine.execLdaAbs a s
  | .ldxAbs a => Sys2Proof.Machine.execLdxAbs a s
  | .laxAbs a => Sys2Proof.Machine.execLaxAbs a s
  | .bcs b => Sys2Proof.Machine.execBcs b s
  | .ldaIndY b => Sys2Proof.Machine.execLdaIndY b s
  | .jamB2 => Sys2Proof.Machine.execJamB2 s
  | .laxIndY b => Sys2Proof.Machine.execLaxIndY b s
  | .ldyZpX b => Sys2Proof.Machine.execLdyZpX b s
  | .ldaZpX b => Sys2Proof.Machine.execLdaZpX b s
  | .ldxZpY b => Sys2Proof.Machine.execLdxZpY b s
  | .laxZpY b => Sys2Proof.Machine.execLaxZpY b s
  | .clv => Sys2Proof.Machine.execClv s
  | .ldaAbsY a => Sys2Proof.Machine.execLdaAbsY a s
  | .tsx => Sys2Proof.Machine.execTsx s
  | .lasBB => Sys2Proof.Machine.execLasBB s
  | .ldyAbsX a => Sys2Proof.Machine.execLdyAbsX a s
  | .ldaAbsX a => Sys2Proof.Machine.execLdaAbsX a s
  | .ldxAbsY a => Sys2Proof.Machine.execLdxAbsY a s
  | .laxAbsY a => Sys2Proof.Machine.execLaxAbsY a s
  | .cpyImm b => Sys2Proof.Machine.execCpyImm b s
  | .cmpIndX b => Sys2Proof.Machine.execCmpIndX b s
  | .nopImmC2 b => Sys2Proof.Machine.execNopImmC2 b s
  | .dcpIndX b => Sys2Proof.Machine.execDcpIndX b s
  | .cpyZp b => Sys2Proof.Machine.execCpyZp b s
  | .cmpZp b => Sys2Proof.Machine.execCmpZp b s
  | .decZp b => Sys2Proof.Machine.execDecZp b s
  | .dcpZp b => Sys2Proof.Machine.execDcpZp b s
  | .iny => Sys2Proof.Machine.execIny s
  | .cmpImm b => Sys2Proof.Machine.execCmpImm b s
  | .dex => Sys2Proof.Machine.execDex s
  | .axsImm b => Sys2Proof.Machine.execAxsImm b s
  | .cpyAbs a => Sys2Proof.Machine.execCpyAbs a s
  | .cmpAbs a => Sys2Proof.Machine.execCmpAbs a s
  | .decAbs a => Sys2Proof.Machine.execDecAbs a s
  | .dcpAbs a => Sys2Proof.Machine.execDcpAbs a s
  | .bne b => Sys2Proof.Machine.execBne b s
  | .cmpIndY b => Sys2Proof.Machine.execCmpIndY b s
  | .jamD2 => Sys2Proof.Machine.execJamD2 s
  | .dcpIndY b => Sys2Proof.Machine.execDcpIndY b s
  | .nopZpXD4 b => Sys2Proof.Machine.execNopZpXD4 b s
  | .cmpZpX b => Sys2Proof.Machine.execCmpZpX b s
  | .decZpX b => Sys2Proof.Machine.execDecZpX b s
  | .dcpZpX b => Sys2Proof.Machine.execDcpZpX b s
  | .cld => Sys2Proof.Machine.execCld s
  | .cmpAbsY a => Sys2Proof.Machine.execCmpAbsY a s
  | .nopImpDA => Sys2Proof.Machine.execNopImpDA s
  | .dcpAbsY a => Sys2Proof.Machine.execDcpAbsY a s
  | .nopAbsXDC a => Sys2Proof.Machine.execNopAbsXDC a s
  | .cmpAbsX a => Sys2Proof.Machine.execCmpAbsX a s
  | .decAbsX a => Sys2Proof.Machine.execDecAbsX a s
  | .dcpAbsX a => Sys2Proof.Machine.execDcpAbsX a s
  | .cpxImm b => Sys2Proof.Machine.execCpxImm b s
  | .sbcIndX b => Sys2Proof.Machine.execSbcIndX b s
  | .nopImmE2 b => Sys2Proof.Machine.execNopImmE2 b s
  | .isbIndX b => Sys2Proof.Machine.execIsbIndX b s
  | .cpxZp b => Sys2Proof.Machine.execCpxZp b s
  | .sbcZp b => Sys2Proof.Machine.execSbcZp b s
  | .incZp b => Sys2Proof.Machine.execIncZp b s
  | .isbZp b => Sys2Proof.Machine.execIsbZp b s
  | .inx => Sys2Proof.Machine.execInx s
  | .sbcImm b => Sys2Proof.Machine.execSbcImm b s
  | .nop => Sys2Proof.Machine.execNop s
  | .sbcImmEB b => Sys2Proof.Machine.execSbcImmEB b s
  | .cpxAbs a => Sys2Proof.Machine.execCpxAbs a s
  | .sbcAbs a => Sys2Proof.Machine.execSbcAbs a s
  | .incAbs a => Sys2Proof.Machine.execIncAbs a s
  | .isbAbs a => Sys2Proof.Machine.execIsbAbs a s
  | .beq b => Sys2Proof.Machine.execBeq b s
  | .sbcIndY b => Sys2Proof.Machine.execSbcIndY b s
  | .jamF2 => Sys2Proof.Machine.execJamF2 s
  | .isbIndY b => Sys2Proof.Machine.execIsbIndY b s
  | .nopZpXF4 b => Sys2Proof.Machine.execNopZpXF4 b s
  | .sbcZpX b => Sys2Proof.Machine.execSbcZpX b s
  | .incZpX b => Sys2Proof.Machine.execIncZpX b s
  | .isbZpX b => Sys2Proof.Machine.execIsbZpX b s
  | .sed => Sys2Proof.Machine.execSed s
  | .sbcAbsY a => Sys2Proof.Machine.execSbcAbsY a s
  | .nopImpFA => Sys2Proof.Machine.execNopImpFA s
  | .isbAbsY a => Sys2Proof.Machine.execIsbAbsY a s
  | .nopAbsXFC a => Sys2Proof.Machine.execNopAbsXFC a s
  | .sbcAbsX a => Sys2Proof.Machine.execSbcAbsX a s
  | .incAbsX a => Sys2Proof.Machine.execIncAbsX a s
  | .isbAbsX a => Sys2Proof.Machine.execIsbAbsX a s

end Sys2Proof.Machine
end

