-- ==== Sys2Proof/Machine/Fetch.lean ====
section
/-! DEFINITION. Fetching an instruction, and what the system step adds around its execution (spec 40 R400-R404;
30 R310); placing an instruction where the next step fetches it. -/

namespace Sys2Proof.Machine

/-- The fetch of one instruction (R401, R402): the opcode byte, then the operand bytes its length asks for, each an
ordinary bus read that advances PC. -/
def State.fetchInstr (s : State) : Instr × State :=
  let o := s.fetch
  if lengthOf o.1 = 1 then (instrOf o.1 0 0, o.2)
  else
    let b1 := o.2.fetch
    if lengthOf o.1 = 2 then (instrOf o.1 b1.1 0, b1.2)
    else
      let b2 := b1.2.fetch
      (instrOf o.1 b1.1 b2.1, b2.2)

/-- The part of a step after the instruction (R400): the `n` cycles it took are fanned out, then a pending OAM-DMA
runs. -/
def State.finishStep (n : Nat) (s : State) : State :=
  let t := s.tick n
  if t.bus.dmaPending then t.oamDma else t

/-- What a step makes of an instruction's own outcome, `s` the state it ran on (R400, log 8): its cycles are those it
added to the counter. -/
def completeStep (s : State) (o : Answer) : Answer :=
  match o with
  | .next t => .next (t.finishStep (t.cpu.cycles - s.cpu.cycles))
  | .fault r => .fault r
  | .refused r => .refused r

/-- The instruction part of a step (R400, R401): fetch, execute, fan out. -/
def State.cpuStep (s : State) : Answer :=
  let f := s.fetchInstr
  completeStep f.2 (exec f.1 f.2)

/-- The step of a machine that is not refused and has a cartridge: NMI first, then IRQ, then the next instruction
(R400, R715). -/
def State.systemStep (s : State) : Answer :=
  if s.cpu.nmiPending then .next (s.clearNmi.interruptSequence nmiVector)
  else if s.irqLine && !s.cpu.flags.i then .next (s.acknowledgeIrq.interruptSequence irqVector)
  else s.cpuStep

/-- The state a refused step leaves (R310): `refused` is set, PC is back at the opcode, and the opcode fetch's own
read side effects have happened. A refused outcome carries no state, so the host reads it here. -/
def State.afterRefusal (s : State) : State :=
  let t := s.fetch.2
  { t with cpu := { s.cpu with refused := true } }

/-! ### Placing an instruction (log 9) -/

/-- Whether an address is plain memory: RAM, PRG-RAM or PRG-ROM (R200, R271, R286). -/
def plainAddress (a : Word) : Bool := decide (a.toNat < 0x2000) || decide (0x6000 ≤ a.toNat)

/-- The byte behind a plain address replaced from outside, PRG-ROM included. -/
def State.placeByte (s : State) (a : Word) (v : Byte) : State :=
  let n := a.toNat
  if n < 0x2000 then { s with bus := { s.bus with ram := s.bus.ram.set (n % 0x800) v } }
  else if n < 0x8000 then { s with cart := { s.cart with prgRam := s.cart.prgRam.set (n - 0x6000) v } }
  else { s with cart := { s.cart with prgRom := s.cart.prgRom.set (s.cart.prgIndex a) v } }

/-- Whether the three bytes from PC on are plain memory. -/
def State.pcIsPlain (s : State) : Bool :=
  plainAddress s.cpu.pc && plainAddress (s.cpu.pc + 1) && plainAddress (s.cpu.pc + 2)

/-- Nothing stands before the next instruction: not refused, a cartridge attached, no NMI and, if IRQs are enabled, no
IRQ. -/
def State.readyToFetch (s : State) : State :=
  let s1 := { s with
    cpu := { s.cpu with refused := false, nmiPending := false }
    cart := { s.cart with attached := true } }
  if s.cpu.flags.i then s1
  else { s1 with
    cpu := { s1.cpu with hostIrq := false }
    apu := { s1.apu with frameIrq := false }
    cart := s1.cart.irqClear }

/-- The bytes of a table word placed at PC, moved to $0000 where PC does not stand in plain memory. -/
def State.placeInstr (s : State) (b0 b1 b2 : Byte) : State :=
  let s1 := s.readyToFetch
  let s2 := if s1.pcIsPlain then s1 else s1.setPc 0
  ((s2.placeByte s2.cpu.pc b0).placeByte (s2.cpu.pc + 1) b1).placeByte (s2.cpu.pc + 2) b2

end Sys2Proof.Machine
end

