-- ==== Sys2Proof/Machine/Step.lean ====
section
/-! DEFINITION. The step (spec 40 R400), the machine under other settings (log 6), and the placing of an instruction where
the step fetches the next one. -/

namespace Sys2Proof.Machine

/-- `SystemStep` (R400): a refused state and a machine with no cartridge have no successor (R110, R1003). -/
def step (s : State) : Host.Outcome State Fault Refusal :=
  if s.cpu.refused then .refused .alreadyRefused
  else if s.cart.attached then s.systemStep
  else .refused .noCartridge

/-- The machine with other settings: `step (s.withSettings p)` is the step under the arguments `p` (R15, R170). -/
def State.withSettings (s : State) (p : Config.Settings) : State := { s with settings := p }

/-- `s` with the instruction of a table word where the next step fetches it (log 9). -/
def State.withFetchWord (s : State) (nbits w : Nat) : State :=
  s.placeInstr (tableByte nbits w 0) (tableByte nbits w 1) (tableByte nbits w 2)

end Sys2Proof.Machine
end

