-- ==== Sys2Proof/Machine/Reset.lean ====
section
/-! DEFINITION. Power-on and reset (spec 70 R1000-R1004; 10 R112, R121, R156; 20 R299; 61 R870; 62 R980). -/

namespace Sys2Proof.Machine

/-- `BusReset()` (R121): RAM keeps its contents, every other field takes its power-on value. The model's draw counter
goes on (log 3). -/
def Bus.reset (b : Bus) : Bus := { ram := b.ram, draws := b.draws }

/-- `PpuReset()` (R870): the memories and the framebuffer keep their contents. -/
def Ppu.reset (p : Ppu) : Ppu :=
  { ntRam := p.ntRam, palette := p.palette, oam := p.oam, oam2 := p.oam2, framebuffer := p.framebuffer }

/-- `ApuReset()` (R980, R156): nothing is kept. -/
def Apu.reset : Apu := {}

/-- The CPU registers as `Reset()` sets them (R112), but for PC. -/
def Cpu.reset : Cpu := { sp := 0xFD, flags := { i := true } }

/-- The four subsystems re-initialised, in the order of R1000, before PC is read. -/
def State.initialised (s : State) : State :=
  { cpu := Cpu.reset, bus := s.bus.reset, ppu := s.ppu.reset, apu := Apu.reset, cart := s.cart.mapperReset,
    settings := s.settings }

/-- `Reset()` with a cartridge attached (R1000), with the reset tick of R1001. -/
def State.resetMachine (s : State) : State :=
  let r := s.initialised.read16 resetVector
  ((r.2.setPc r.1).addCycles 7).tick 7

/-- The host's reset (R1003): at any boundary, a refused one too; with no cartridge attached it is refused. -/
def State.hostReset (s : State) : Host.Outcome State Fault Refusal :=
  if s.cart.attached then .next s.resetMachine else .refused .noCartridge

/-- MEM_INIT (R15, R1004): the contents at power-on of the memories that reset keeps. -/
structure MemInit where
  ram : Memory := []
  ntRam : Memory := []
  palette : Memory := []
  oam : Memory := []
  oam2 : Memory := []
  prgRam : Memory := []
  deriving DecidableEq, Repr

/-- The machine at power-on with settings `p` and a cartridge, before its first reset (R1004): the memories hold
MEM_INIT, the framebuffer is all 0. -/
def State.powerOn (p : Config.Settings) (m : MemInit) (c : Cart) : State where
  cpu := {}
  bus := { ram := m.ram }
  ppu := { ntRam := m.ntRam, palette := m.palette, oam := m.oam, oam2 := m.oam2 }
  apu := {}
  cart := { c with prgRam := m.prgRam }
  settings := p

end Sys2Proof.Machine
end

