-- ==== Sys2Proof/Machine/HostActions.lean ====
section
/-! DEFINITION. What the host may do between two steps (spec 00 R12), beside reset and loading, and its frame loop
(spec 40 R431). -/

namespace Sys2Proof.Machine

/-- Write a controller's input latch (R240): port 0, or port 1 for any other number. -/
def State.setInput (s : State) (port : Nat) (v : Byte) : State :=
  if port = 0 then { s with bus := { s.bus with input0 := v } } else { s with bus := { s.bus with input1 := v } }

/-- Drain the samples (R975): they are copied in order, and the buffer is emptied. -/
def State.drainSamples (s : State) : List (BitVec 32) × State :=
  (s.apu.samples, { s with apu := { s.apu with samples := [] } })

/-- Take the frame (R868): the framebuffer is read and `frame_ready` cleared. -/
def State.takeFrame (s : State) : Framebuffer × State :=
  (s.ppu.framebuffer, { s with ppu := { s.ppu with frameReady := false } })

/-- The host's `nmi()` (R706). -/
def State.injectNmi (s : State) : State := { s with cpu := { s.cpu with nmiPending := true } }

/-- The host's `irq()` (R706). -/
def State.injectIrq (s : State) : State := { s with cpu := { s.cpu with hostIrq := true } }

/-- The conformance boot's `PC <- $C000` after a reset (R1006). -/
def State.conformanceBoot (s : State) : State := s.resetMachine.setPc 0xC000

/-- Serialize (R1033): the byte format is out of scope (R7), so a snapshot is the state itself (log 14). -/
def State.snapshot (s : State) : State := s

/-- Deserialize (R1033): a stream that does not parse is a failure, and leaves the state unchanged. -/
def restoreState (stream : Option State) : Host.Outcome State Fault Refusal :=
  match stream with
  | some s => .next s
  | none => .fault .restoreFailed

/-- A host frame (R431): steps until `frame_ready` is 1. DESIGN CHOICE (log 20): the flag is tested before the first step,
so a frame begun with it still set runs none, and when the fuel, at most so many steps, runs out the answer is the
state reached, its frame unfinished. -/
def runFrame : Nat → State → Host.Outcome State Fault Refusal
  | 0, s => .next s
  | n + 1, s =>
    if s.ppu.frameReady then .next s
    else
      match step s with
      | .next t => runFrame n t
      | .fault r => .fault r
      | .refused r => .refused r

end Sys2Proof.Machine
end

