-- ==== Sys2Proof/Machine/Loader.lean ====
section
/-! DEFINITION. The cartridge image and its loader (spec 20 R280, R281; 70 R1004). -/

namespace Sys2Proof.Machine

/-- The magic 'N' 'E' 'S' 0x1A (R280). -/
def imageMagic : List Byte := [0x4E, 0x45, 0x53, 0x1A]

/-- The header fields the CORE uses (R280). -/
structure Header where
  prgBanks : Nat
  chrBanks : Nat
  mirroring : Mirroring
  battery : Bool
  trainer : Bool
  mapperId : Byte
  deriving DecidableEq, Repr

/-- The header from its bytes 4 to 7; bit 3 of byte 6, bits 3:0 of byte 7 and bytes 8 to 15 are ignored (R280). -/
def Header.ofBytes (prg chr flags6 flags7 : Byte) : Header where
  prgBanks := prg.toNat
  chrBanks := chr.toNat
  mirroring := if bit flags6 0 then .vertical else .horizontal
  battery := bit flags6 1
  trainer := bit flags6 2
  mapperId := (flags7 &&& 0xF0) ||| (flags6 >>> 4)

/-- The header of an image. -/
def Header.ofImage (image : List Byte) : Header :=
  Header.ofBytes (image.getD 4 0) (image.getD 5 0) (image.getD 6 0) (image.getD 7 0)

/-- Where the PRG bytes begin: after the 16-byte header and the trainer, which is skipped (R280). -/
def Header.prgStart (h : Header) : Nat := 16 + (if h.trainer then 512 else 0)

/-- Where the CHR bytes begin (R280). -/
def Header.chrStart (h : Header) : Nat := h.prgStart + h.prgBanks * 16384

/-- How long the image must be (R281); bytes after that are ignored (R280). -/
def Header.imageSize (h : Header) : Nat := h.chrStart + h.chrBanks * 8192

/-- The mapper ids of a MAPPER_SET (R15, R260): NROM is 0, MMC3 is 4. -/
def mapperIds : Config.MapperSet → List Byte
  | .nrom => [0]
  | .nromAndMmc3 => [0, 4]

/-- The load-time error of an image under a MAPPER_SET, if it has one (R281), tried in the order the rule lists them
(log 13). -/
def imageFault (mappers : Config.MapperSet) (image : List Byte) : Option Fault :=
  let h := Header.ofImage image
  if image.take 4 ≠ imageMagic then some .badMagic
  else if image.length < h.imageSize ∨ image.length < 16 then some .truncatedImage
  else if h.mapperId ∉ mapperIds mappers then some .unsupportedMapper
  else if h.prgBanks = 0 then some .noPrgBanks
  else none

/-- The cartridge an image without an error describes (R280): CHR-RAM is allocated zero-filled when chr_banks = 0;
PRG-RAM holds MEM_INIT (R1004). The MMC3's mirroring starts as the header's (R162). -/
def Cart.ofImage (image : List Byte) (prgRam : Memory) : Cart :=
  let h := Header.ofImage image
  { attached := true
    prgBanks := h.prgBanks
    prgRom := Memory.ofBytes 0 ((image.drop h.prgStart).take (h.prgBanks * 16384))
    chrBanks := h.chrBanks
    chr := Memory.ofBytes 0 ((image.drop h.chrStart).take (h.chrBanks * 8192))
    chrIsRam := h.chrBanks == 0
    prgRam := prgRam
    mirroring := h.mirroring
    mapperId := h.mapperId
    battery := h.battery
    mmc3 := { mirroring := h.mirroring } }

/-- Power-on (R1004) with settings `p`: the image is loaded, then `Reset()`. A rejected image is a fault. -/
def loadAndReset (p : Config.Settings) (m : MemInit) (image : List Byte) : Host.Outcome State Fault Refusal :=
  match imageFault p.mapperSet image with
  | some f => .fault f
  | none => .next (State.powerOn p m (Cart.ofImage image m.prgRam)).resetMachine

/-- What a rejected load leaves: no cartridge attached (R281). -/
def State.withoutCartridge (s : State) : State := { s with cart := { attached := false } }

end Sys2Proof.Machine
end

