-- ==== Sys2Proof/WellFormed.lean ====
section
/-! DEFINITION. Which instructions the CORE admits (spec 00 R4; 30 R304, R305, R310): the documented and the admitted
undocumented opcodes. Operands need no check: every operand byte is legal (20 R221), and their widths are in their
types. -/

namespace Sys2Proof

/-- The tier of an instruction's row admits it: it is not one of the twenty refused opcodes (R310). -/
def Tier.admitted : Tier → Bool
  | .documented => true
  | .illegal => true
  | .refused => false

/-- The instruction is in the admitted set (R4). -/
def Instr.wellFormed (i : Instr) : Bool := i.row.tier.admitted

end Sys2Proof
end

