-- ==== Sys2Proof/Machine/Trace.lean ====
section
/-! DEFINITION. The trace line before an instruction (spec 70 R1034) and the assembler syntax (spec 30 R301, R315,
R316). -/

namespace Sys2Proof.Machine

/-- A hexadecimal digit, upper case (R1034). -/
def hexDigit (n : Nat) : String :=
  (["0", "1", "2", "3", "4", "5", "6", "7", "8", "9", "A", "B", "C", "D", "E", "F"]).getD n "F"

/-- A byte in two hexadecimal digits. -/
def hexByte (b : Byte) : String := hexDigit (b.toNat / 16) ++ hexDigit (b.toNat % 16)

/-- A word in four hexadecimal digits. -/
def hexWord (a : Word) : String := hexByte (hiByte a) ++ hexByte (loByte a)

/-- The absolute target of a branch at `pc` with offset byte `off` (R426). -/
def branchTarget (pc : Word) (off : Byte) : Word := pc + 2 + sext8 off

/-- The offset byte of a branch at `pc` to `target`, where it is in range (R316). DESIGN CHOICE (log 19): the difference
is taken modulo 2^16, so a target on the other side of $FFFF/$0000 is in range. -/
def branchOffset (pc target : Word) : Option Byte :=
  let d := target - (pc + 2)
  if -128 ≤ d.toInt ∧ d.toInt ≤ 127 then some (loByte d) else none

/-- The operand of the assembler syntax (R301), with the space before it, for an instruction at `pc`. -/
def operandText (pc : Word) (b1 b2 : Byte) : Mode → String
  | .implied => ""
  | .accumulator => " A"
  | .immediate => " #$" ++ hexByte b1
  | .zeroPage => " $" ++ hexByte b1
  | .zeroPageX => " $" ++ hexByte b1 ++ ",X"
  | .zeroPageY => " $" ++ hexByte b1 ++ ",Y"
  | .absolute => " $" ++ hexWord (wordOf b1 b2)
  | .absoluteX => " $" ++ hexWord (wordOf b1 b2) ++ ",X"
  | .absoluteY => " $" ++ hexWord (wordOf b1 b2) ++ ",Y"
  | .indirect => " ($" ++ hexWord (wordOf b1 b2) ++ ")"
  | .indexedIndirect => " ($" ++ hexByte b1 ++ ",X)"
  | .indirectIndexed => " ($" ++ hexByte b1 ++ "),Y"
  | .relative => " $" ++ hexWord (branchTarget pc b1)

/-- The mnemonic, with the `*` of an undocumented opcode (R315). -/
def mnemonicText (r : OpRow) : String :=
  match r.tier with
  | .illegal => "*" ++ r.mnemonic
  | .documented => r.mnemonic
  | .refused => r.mnemonic

/-- The assembler text of an instruction at `pc` (R315), without the trace's operand annotations (log 15). -/
def assembly (pc : Word) (i : Instr) : String :=
  let bytes := encode i
  match i.row.mode with
  | some m => mnemonicText i.row ++ operandText pc (bytes.getD 1 0) (bytes.getD 2 0) m
  | none => mnemonicText i.row

/-- The fields of a trace line (R1034). -/
structure TraceLine where
  pc : Word
  bytes : List Byte
  text : String
  a : Byte
  x : Byte
  y : Byte
  p : Byte
  sp : Byte
  scanline : Nat
  dot : Nat
  cycles : Nat
  deriving DecidableEq, Repr

/-- The instruction at PC, read with `Peek` (R1034). -/
def State.peekInstr (s : State) : Instr :=
  instrOf (s.peek s.cpu.pc) (s.peek (s.cpu.pc + 1)) (s.peek (s.cpu.pc + 2))

/-- The trace line of the next step (R1034): none when that step is an interrupt sequence, or has no successor. -/
def State.traceLine (s : State) : Option TraceLine :=
  if s.cpu.refused || !s.cart.attached || s.cpu.nmiPending || (s.irqLine && !s.cpu.flags.i) ||
      !s.peekInstr.wellFormed then none
  else
    some
      { pc := s.cpu.pc
        bytes := encode s.peekInstr
        text := assembly s.cpu.pc s.peekInstr
        a := s.cpu.a
        x := s.cpu.x
        y := s.cpu.y
        p := s.p
        sp := s.cpu.sp
        scanline := s.ppu.scanline
        dot := s.ppu.dot
        cycles := s.cpu.cycles }

end Sys2Proof.Machine
end

