-- ==== Sys2Proof/Safety.lean ====
section
/-! DEFINITION. The terms claims use: the invariant of the machine, what a step leaves alone, and the instruction
forms family by family (spec 30 R303, R305), each with its operand, base cycles and page-penalty flag. -/

namespace Sys2Proof.Machine

/-! ### The invariant -/

/-- A memory of `size` bytes in its canonical form. -/
structure Memory.Holds (m : Memory) (size : Nat) : Prop where
  wf : m.wf
  below : m.below size

/-- A framebuffer in canonical form: rows 0..239 and columns 0..255, strictly rising (R140). -/
structure Framebuffer.Inv (f : Framebuffer) : Prop where
  rising : f.Pairwise (fun c d => c.1 < d.1)
  rows : ∀ c ∈ f, c.1 ≤ 239 ∧ c.2.Pairwise (fun p q => p.1 < q.1) ∧ ∀ p ∈ c.2, p.1 ≤ 255

/-- The PPU (R130, R137, R139, R140). -/
structure Ppu.Inv (p : Ppu) : Prop where
  scanline : p.scanline ≤ 261
  dot : p.dot ≤ 340
  sprCount : p.sprCount ≤ 8
  slots : p.slots.length = 8
  ntRam : p.ntRam.Holds 2048
  palette : p.palette.Holds 32
  oam : p.oam.Holds 256
  oam2 : p.oam2.Holds 32
  framebuffer : p.framebuffer.Inv

/-- The APU (R152-R155): the noise LFSR is never zero; the counters are in their ranges; a DMC that has bytes left reads
them at $8000-$FFFF (R912, R913). -/
structure Apu.Inv (u : Apu) : Prop where
  lfsr : u.noise.lfsr ≠ 0
  fcCycles : u.fcCycles ≤ 7456
  fcStep : u.fcStep ≤ (if u.fcMode then 4 else 3)
  sampleAcc : u.sampleAcc < 1789773
  samples : u.samples.length ≤ 1024
  bitsLeft : 1 ≤ u.dmc.bitsLeft.toNat ∧ u.dmc.bitsLeft.toNat ≤ 8
  curAddr : u.dmc.bytesLeft ≠ 0 → 0x8000 ≤ u.dmc.curAddr.toNat

/-- The cartridge's memories (R160). -/
structure Cart.Inv (c : Cart) : Prop where
  prgRom : c.prgRom.Holds c.prgSize
  chr : c.chr.Holds c.chrSize
  prgRam : c.prgRam.Holds 8192

/-- The whole machine: its parts, and one APU cycle for every CPU cycle counted (R9, R155). -/
structure State.Inv (s : State) : Prop where
  ram : s.bus.ram.Holds 2048
  ppu : s.ppu.Inv
  apu : s.apu.Inv
  cart : s.cart.Inv
  clock : s.apu.apuCycle = s.cpu.cycles

/-! ### What is left alone -/

/-- Whether two CPU addresses name the same byte: the four RAM mirrors alias (R202), nothing else does. -/
def sameByte (a b : Word) : Prop :=
  if a.toNat < 0x2000 then b.toNat < 0x2000 ∧ a.toNat % 0x800 = b.toNat % 0x800 else a = b

/-- Every memory of the machine holds what it held. -/
structure SameMemories (s t : State) : Prop where
  ram : t.bus.ram = s.bus.ram
  ntRam : t.ppu.ntRam = s.ppu.ntRam
  palette : t.ppu.palette = s.ppu.palette
  oam : t.ppu.oam = s.ppu.oam
  oam2 : t.ppu.oam2 = s.ppu.oam2
  framebuffer : t.ppu.framebuffer = s.ppu.framebuffer
  prgRom : t.cart.prgRom = s.cart.prgRom
  prgRam : t.cart.prgRam = s.cart.prgRam
  chr : t.cart.chr = s.cart.chr
  plain : ∀ a, plainAddress a = true → t.peek a = s.peek a

/-- The bus registers that only a write or the host changes (R120). -/
structure SameBusRegisters (s t : State) : Prop where
  input0 : t.bus.input0 = s.bus.input0
  input1 : t.bus.input1 = s.bus.input1
  strobe : t.bus.strobe = s.bus.strobe
  openBus : t.bus.openBus = s.bus.openBus
  dmaPage : t.bus.dmaPage = s.bus.dmaPage
  dmaPending : t.bus.dmaPending = s.bus.dmaPending

/-- Everything but the CPU is the same. -/
structure SameDevices (s t : State) : Prop where
  bus : t.bus = s.bus
  ppu : t.ppu = s.ppu
  apu : t.apu = s.apu
  cart : t.cart = s.cart
  settings : t.settings = s.settings

/-- Whether an address names the PPU's data port $2007 or a mirror of it (R203). -/
def namesPpuData (a : Word) : Prop := 0x2000 ≤ a.toNat ∧ a.toNat < 0x4000 ∧ a.toNat % 8 = 7

/-- What a store to `ea`, plain or read-modify-write, leaves alone outside the CPU (R201): every byte of plain memory that
is not the byte stored to, except that a store from $8000 on reconfigures an MMC3, and its PRG-ROM window may then show
other banks; the PPU unless `ea` names one of its registers; the APU unless `ea` is one of its addresses; PRG-RAM unless
`ea` is in it; CHR memory and the MMC3 unless `ea` names $2007, and the MMC3 only below $8000; the rest of the cartridge;
the DMA latch unless `ea` is $4014, the strobe unless it is $4016, the first shift register unless it is $4016, the second
unless it is $4016 or $4017. -/
structure StoreFrame (ea : Word) (s t : State) : Prop where
  plain : ∀ b, plainAddress b = true → ¬ sameByte ea b →
    ¬ (s.cart.isMmc3 = true ∧ 0x8000 ≤ ea.toNat ∧ 0x8000 ≤ b.toNat) → t.peek b = s.peek b
  ram : 0x2000 ≤ ea.toNat → t.bus.ram = s.bus.ram
  prgRom : t.cart.prgRom = s.cart.prgRom
  prgRam : ¬ (0x6000 ≤ ea.toNat ∧ ea.toNat < 0x8000) → t.cart.prgRam = s.cart.prgRam
  ppu : ¬ (0x2000 ≤ ea.toNat ∧ ea.toNat < 0x4000) → t.ppu = s.ppu
  apu : ¬ (0x4000 ≤ ea.toNat ∧ ea.toNat < 0x4018) → t.apu = s.apu
  cart : ¬ namesPpuData ea → ea.toNat < 0x6000 → t.cart = s.cart
  chr : ¬ namesPpuData ea → t.cart.chr = s.cart.chr
  mmc3 : ¬ namesPpuData ea → ea.toNat < 0x8000 ∨ s.cart.isMmc3 = false → t.cart.mmc3 = s.cart.mmc3
  header : t.cart = { s.cart with prgRam := t.cart.prgRam, chr := t.cart.chr, mmc3 := t.cart.mmc3 }
  dma : ea.toNat ≠ 0x4014 → t.bus.dmaPage = s.bus.dmaPage ∧ t.bus.dmaPending = s.bus.dmaPending
  strobe : ea.toNat ≠ 0x4016 → t.bus.strobe = s.bus.strobe
  shift0 : ea.toNat ≠ 0x4016 → t.bus.shift0 = s.bus.shift0
  shift1 : ea.toNat ≠ 0x4016 → ea.toNat ≠ 0x4017 → t.bus.shift1 = s.bus.shift1
  inputs : t.bus.input0 = s.bus.input0 ∧ t.bus.input1 = s.bus.input1 ∧ t.bus.openBus = s.bus.openBus
  settings : t.settings = s.settings

/-- The pending NMI may change only by a write of PPUCTRL, and then only from 0 to 1 (R705, R782). -/
def NmiLatchFrame (ea : Word) (s t : State) : Prop :=
  (s.cpu.nmiPending = true → t.cpu.nmiPending = true) ∧
  (¬ (0x2000 ≤ ea.toNat ∧ ea.toNat < 0x4000 ∧ ea.toNat % 8 = 0) → t.cpu.nmiPending = s.cpu.nmiPending)

/-- What a bus read leaves alone, as a relation: it may change the two shift registers and the draw counter; VBlank, the
write toggle, the read buffer and `v`; the frame IRQ flag; and the MMC3's counter side (R223). -/
structure ReadFrame (s t : State) : Prop where
  cpu : t.cpu = s.cpu
  bus : t.bus = { s.bus with shift0 := t.bus.shift0, shift1 := t.bus.shift1, draws := t.bus.draws }
  ppu : t.ppu = { s.ppu with
    vblank := t.ppu.vblank, w := t.ppu.w, readBuffer := t.ppu.readBuffer, v := t.ppu.v }
  apu : t.apu = { s.apu with frameIrq := t.apu.frameIrq }
  cart : t.cart = { s.cart with mmc3 := { s.cart.mmc3 with
    irqCounter := t.cart.mmc3.irqCounter
    irqReload := t.cart.mmc3.irqReload
    irqPending := t.cart.mmc3.irqPending
    a12Prev := t.cart.mmc3.a12Prev
    a12LowSince := t.cart.mmc3.a12LowSince } }
  settings : t.settings = s.settings

/-- Whether two addresses of the PPU's space name the same byte of the same memory (R250, R252, R253): of CHR by the
cartridge's banks (R272, R287), of nametable RAM by its mirroring, of palette RAM by the mirrored entries. -/
def sameVideoByte (c : Cart) (a b : PpuAddr) : Prop :=
  if a.toNat < 0x2000 then b.toNat < 0x2000 ∧ c.chrIndex a = c.chrIndex b
  else if a.toNat < 0x3F00 then
    0x2000 ≤ b.toNat ∧ b.toNat < 0x3F00 ∧
      nametableIndex c.nametableMirroring a = nametableIndex c.nametableMirroring b
  else 0x3F00 ≤ b.toNat ∧ paletteIndex a = paletteIndex b

/-- How many dots lie before the PPU's place, had no dot been skipped: 89342 to a frame (R751). -/
def Ppu.position (p : Ppu) : Nat := p.frame * 89342 + p.scanline * 341 + p.dot

/-! ### The stack and entering a handler -/

/-- `bytes` were pushed in this order and nothing else happened outside the CPU (R105, R467): byte `k` stands at the
stack address `k` below the stack index, every other byte of plain memory is what it was. -/
structure Pushed (bytes : List Byte) (s t : State) : Prop where
  stored : ∀ k v, bytes[k]? = some v → t.peek (stackAddr (s.cpu.sp - BitVec.ofNat 8 k)) = v
  others : ∀ b, plainAddress b = true →
    (∀ k < bytes.length, ¬ sameByte (stackAddr (s.cpu.sp - BitVec.ofNat 8 k)) b) → t.peek b = s.peek b
  bus : t.bus = { s.bus with ram := t.bus.ram }
  ppu : t.ppu = s.ppu
  apu : t.apu = s.apu
  cart : t.cart = s.cart
  settings : t.settings = s.settings

/-- A handler was entered (R575, R720): PC and the byte `p` were pushed, I is set, PC is read from `vector`, 7 cycles are
counted, and no other register changed. -/
structure Entered (p : Byte) (vector : Word) (s t : State) : Prop where
  pushed : Pushed [hiByte s.cpu.pc, loByte s.cpu.pc, p] s t
  cpu : t.cpu = { s.cpu with
    sp := s.cpu.sp - 3
    pc := wordOf (s.peek vector) (s.peek (vector + 1))
    flags := { s.cpu.flags with i := true }
    cycles := s.cpu.cycles + 7 }

/-! ### The forms -/

/-- An instruction that reads an operand: the operand, the base cycles, whether it pays the page penalty. -/
structure ReadForm where
  instr : Instr
  operand : Operand
  cycles : Nat
  penalty : Bool

/-- An instruction that names memory it stores to: the memory operand and the base cycles. -/
structure MemForm where
  instr : Instr
  mem : Mem
  cycles : Nat

/-- The LDA forms that read an operand (R303). -/
def ldaForms (b : Byte) (a : Word) : List ReadForm :=
  [⟨.ldaIndX b, .mem (.indX b), 6, false⟩,
   ⟨.ldaZp b, .mem (.zp b), 3, false⟩,
   ⟨.ldaImm b, .imm b, 2, false⟩,
   ⟨.ldaAbs a, .mem (.abs a), 4, false⟩,
   ⟨.ldaIndY b, .mem (.indY b), 5, true⟩,
   ⟨.ldaZpX b, .mem (.zpX b), 4, false⟩,
   ⟨.ldaAbsY a, .mem (.absY a), 4, true⟩,
   ⟨.ldaAbsX a, .mem (.absX a), 4, true⟩]

/-- The LDX forms that read an operand (R303). -/
def ldxForms (b : Byte) (a : Word) : List ReadForm :=
  [⟨.ldxImm b, .imm b, 2, false⟩,
   ⟨.ldxZp b, .mem (.zp b), 3, false⟩,
   ⟨.ldxAbs a, .mem (.abs a), 4, false⟩,
   ⟨.ldxZpY b, .mem (.zpY b), 4, false⟩,
   ⟨.ldxAbsY a, .mem (.absY a), 4, true⟩]

/-- The LDY forms that read an operand (R303). -/
def ldyForms (b : Byte) (a : Word) : List ReadForm :=
  [⟨.ldyImm b, .imm b, 2, false⟩,
   ⟨.ldyZp b, .mem (.zp b), 3, false⟩,
   ⟨.ldyAbs a, .mem (.abs a), 4, false⟩,
   ⟨.ldyZpX b, .mem (.zpX b), 4, false⟩,
   ⟨.ldyAbsX a, .mem (.absX a), 4, true⟩]

/-- The LAX forms that read an operand (R303, R305). -/
def laxForms (b : Byte) (a : Word) : List ReadForm :=
  [⟨.laxIndX b, .mem (.indX b), 6, false⟩,
   ⟨.laxZp b, .mem (.zp b), 3, false⟩,
   ⟨.laxAbs a, .mem (.abs a), 4, false⟩,
   ⟨.laxIndY b, .mem (.indY b), 5, true⟩,
   ⟨.laxZpY b, .mem (.zpY b), 4, false⟩,
   ⟨.laxAbsY a, .mem (.absY a), 4, true⟩]

/-- The ADC forms that read an operand (R303). -/
def adcForms (b : Byte) (a : Word) : List ReadForm :=
  [⟨.adcIndX b, .mem (.indX b), 6, false⟩,
   ⟨.adcZp b, .mem (.zp b), 3, false⟩,
   ⟨.adcImm b, .imm b, 2, false⟩,
   ⟨.adcAbs a, .mem (.abs a), 4, false⟩,
   ⟨.adcIndY b, .mem (.indY b), 5, true⟩,
   ⟨.adcZpX b, .mem (.zpX b), 4, false⟩,
   ⟨.adcAbsY a, .mem (.absY a), 4, true⟩,
   ⟨.adcAbsX a, .mem (.absX a), 4, true⟩]

/-- The SBC forms that read an operand (R303). -/
def sbcForms (b : Byte) (a : Word) : List ReadForm :=
  [⟨.sbcIndX b, .mem (.indX b), 6, false⟩,
   ⟨.sbcZp b, .mem (.zp b), 3, false⟩,
   ⟨.sbcImm b, .imm b, 2, false⟩,
   ⟨.sbcAbs a, .mem (.abs a), 4, false⟩,
   ⟨.sbcIndY b, .mem (.indY b), 5, true⟩,
   ⟨.sbcZpX b, .mem (.zpX b), 4, false⟩,
   ⟨.sbcAbsY a, .mem (.absY a), 4, true⟩,
   ⟨.sbcAbsX a, .mem (.absX a), 4, true⟩]

/-- The AND forms that read an operand (R303). -/
def andForms (b : Byte) (a : Word) : List ReadForm :=
  [⟨.andIndX b, .mem (.indX b), 6, false⟩,
   ⟨.andZp b, .mem (.zp b), 3, false⟩,
   ⟨.andImm b, .imm b, 2, false⟩,
   ⟨.andAbs a, .mem (.abs a), 4, false⟩,
   ⟨.andIndY b, .mem (.indY b), 5, true⟩,
   ⟨.andZpX b, .mem (.zpX b), 4, false⟩,
   ⟨.andAbsY a, .mem (.absY a), 4, true⟩,
   ⟨.andAbsX a, .mem (.absX a), 4, true⟩]

/-- The ORA forms that read an operand (R303). -/
def oraForms (b : Byte) (a : Word) : List ReadForm :=
  [⟨.oraIndX b, .mem (.indX b), 6, false⟩,
   ⟨.oraZp b, .mem (.zp b), 3, false⟩,
   ⟨.oraImm b, .imm b, 2, false⟩,
   ⟨.oraAbs a, .mem (.abs a), 4, false⟩,
   ⟨.oraIndY b, .mem (.indY b), 5, true⟩,
   ⟨.oraZpX b, .mem (.zpX b), 4, false⟩,
   ⟨.oraAbsY a, .mem (.absY a), 4, true⟩,
   ⟨.oraAbsX a, .mem (.absX a), 4, true⟩]

/-- The EOR forms that read an operand (R303). -/
def eorForms (b : Byte) (a : Word) : List ReadForm :=
  [⟨.eorIndX b, .mem (.indX b), 6, false⟩,
   ⟨.eorZp b, .mem (.zp b), 3, false⟩,
   ⟨.eorImm b, .imm b, 2, false⟩,
   ⟨.eorAbs a, .mem (.abs a), 4, false⟩,
   ⟨.eorIndY b, .mem (.indY b), 5, true⟩,
   ⟨.eorZpX b, .mem (.zpX b), 4, false⟩,
   ⟨.eorAbsY a, .mem (.absY a), 4, true⟩,
   ⟨.eorAbsX a, .mem (.absX a), 4, true⟩]

/-- The CMP forms that read an operand (R303). -/
def cmpForms (b : Byte) (a : Word) : List ReadForm :=
  [⟨.cmpIndX b, .mem (.indX b), 6, false⟩,
   ⟨.cmpZp b, .mem (.zp b), 3, false⟩,
   ⟨.cmpImm b, .imm b, 2, false⟩,
   ⟨.cmpAbs a, .mem (.abs a), 4, false⟩,
   ⟨.cmpIndY b, .mem (.indY b), 5, true⟩,
   ⟨.cmpZpX b, .mem (.zpX b), 4, false⟩,
   ⟨.cmpAbsY a, .mem (.absY a), 4, true⟩,
   ⟨.cmpAbsX a, .mem (.absX a), 4, true⟩]

/-- The CPX forms that read an operand (R303). -/
def cpxForms (b : Byte) (a : Word) : List ReadForm :=
  [⟨.cpxImm b, .imm b, 2, false⟩,
   ⟨.cpxZp b, .mem (.zp b), 3, false⟩,
   ⟨.cpxAbs a, .mem (.abs a), 4, false⟩]

/-- The CPY forms that read an operand (R303). -/
def cpyForms (b : Byte) (a : Word) : List ReadForm :=
  [⟨.cpyImm b, .imm b, 2, false⟩,
   ⟨.cpyZp b, .mem (.zp b), 3, false⟩,
   ⟨.cpyAbs a, .mem (.abs a), 4, false⟩]

/-- The BIT forms that read an operand (R303). -/
def bitForms (b : Byte) (a : Word) : List ReadForm :=
  [⟨.bitZp b, .mem (.zp b), 3, false⟩,
   ⟨.bitAbs a, .mem (.abs a), 4, false⟩]

/-- The ANC forms that read an operand (R303, R305). -/
def ancForms (b : Byte) (_a : Word) : List ReadForm :=
  [⟨.ancImm0B b, .imm b, 2, false⟩,
   ⟨.ancImm2B b, .imm b, 2, false⟩]

/-- The ALR forms that read an operand (R303, R305). -/
def alrForms (b : Byte) (_a : Word) : List ReadForm :=
  [⟨.alrImm b, .imm b, 2, false⟩]

/-- The ARR forms that read an operand (R303, R305). -/
def arrForms (b : Byte) (_a : Word) : List ReadForm :=
  [⟨.arrImm b, .imm b, 2, false⟩]

/-- The AXS forms that read an operand (R303, R305). -/
def axsForms (b : Byte) (_a : Word) : List ReadForm :=
  [⟨.axsImm b, .imm b, 2, false⟩]

/-- The NOP forms that read an operand (R303, R305). -/
def nopForms (b : Byte) (a : Word) : List ReadForm :=
  [⟨.nopZp04 b, .mem (.zp b), 3, false⟩,
   ⟨.nopAbs0C a, .mem (.abs a), 4, false⟩,
   ⟨.nopZpX14 b, .mem (.zpX b), 4, false⟩,
   ⟨.nopAbsX1C a, .mem (.absX a), 4, true⟩,
   ⟨.nopZpX34 b, .mem (.zpX b), 4, false⟩,
   ⟨.nopAbsX3C a, .mem (.absX a), 4, true⟩,
   ⟨.nopZp44 b, .mem (.zp b), 3, false⟩,
   ⟨.nopZpX54 b, .mem (.zpX b), 4, false⟩,
   ⟨.nopAbsX5C a, .mem (.absX a), 4, true⟩,
   ⟨.nopZp64 b, .mem (.zp b), 3, false⟩,
   ⟨.nopZpX74 b, .mem (.zpX b), 4, false⟩,
   ⟨.nopAbsX7C a, .mem (.absX a), 4, true⟩,
   ⟨.nopImm80 b, .imm b, 2, false⟩,
   ⟨.nopImm82 b, .imm b, 2, false⟩,
   ⟨.nopImm89 b, .imm b, 2, false⟩,
   ⟨.nopImmC2 b, .imm b, 2, false⟩,
   ⟨.nopZpXD4 b, .mem (.zpX b), 4, false⟩,
   ⟨.nopAbsXDC a, .mem (.absX a), 4, true⟩,
   ⟨.nopImmE2 b, .imm b, 2, false⟩,
   ⟨.nopZpXF4 b, .mem (.zpX b), 4, false⟩,
   ⟨.nopAbsXFC a, .mem (.absX a), 4, true⟩]

/-- The redundant SBC (R617). -/
def sbcRedundantForms (b : Byte) (_a : Word) : List ReadForm :=
  [⟨.sbcImmEB b, .imm b, 2, false⟩]

/-- The STA forms that name memory (R303). -/
def staForms (b : Byte) (a : Word) : List MemForm :=
  [⟨.staIndX b, .indX b, 6⟩,
   ⟨.staZp b, .zp b, 3⟩,
   ⟨.staAbs a, .abs a, 4⟩,
   ⟨.staIndY b, .indY b, 6⟩,
   ⟨.staZpX b, .zpX b, 4⟩,
   ⟨.staAbsY a, .absY a, 5⟩,
   ⟨.staAbsX a, .absX a, 5⟩]

/-- The STX forms that name memory (R303). -/
def stxForms (b : Byte) (a : Word) : List MemForm :=
  [⟨.stxZp b, .zp b, 3⟩,
   ⟨.stxAbs a, .abs a, 4⟩,
   ⟨.stxZpY b, .zpY b, 4⟩]

/-- The STY forms that name memory (R303). -/
def styForms (b : Byte) (a : Word) : List MemForm :=
  [⟨.styZp b, .zp b, 3⟩,
   ⟨.styAbs a, .abs a, 4⟩,
   ⟨.styZpX b, .zpX b, 4⟩]

/-- The SAX forms that name memory (R303, R305). -/
def saxForms (b : Byte) (a : Word) : List MemForm :=
  [⟨.saxIndX b, .indX b, 6⟩,
   ⟨.saxZp b, .zp b, 3⟩,
   ⟨.saxAbs a, .abs a, 4⟩,
   ⟨.saxZpY b, .zpY b, 4⟩]

/-- The INC forms that name memory (R303). -/
def incForms (b : Byte) (a : Word) : List MemForm :=
  [⟨.incZp b, .zp b, 5⟩,
   ⟨.incAbs a, .abs a, 6⟩,
   ⟨.incZpX b, .zpX b, 6⟩,
   ⟨.incAbsX a, .absX a, 7⟩]

/-- The DEC forms that name memory (R303). -/
def decForms (b : Byte) (a : Word) : List MemForm :=
  [⟨.decZp b, .zp b, 5⟩,
   ⟨.decAbs a, .abs a, 6⟩,
   ⟨.decZpX b, .zpX b, 6⟩,
   ⟨.decAbsX a, .absX a, 7⟩]

/-- The ASL forms that name memory (R303). -/
def aslForms (b : Byte) (a : Word) : List MemForm :=
  [⟨.aslZp b, .zp b, 5⟩,
   ⟨.aslAbs a, .abs a, 6⟩,
   ⟨.aslZpX b, .zpX b, 6⟩,
   ⟨.aslAbsX a, .absX a, 7⟩]

/-- The LSR forms that name memory (R303). -/
def lsrForms (b : Byte) (a : Word) : List MemForm :=
  [⟨.lsrZp b, .zp b, 5⟩,
   ⟨.lsrAbs a, .abs a, 6⟩,
   ⟨.lsrZpX b, .zpX b, 6⟩,
   ⟨.lsrAbsX a, .absX a, 7⟩]

/-- The ROL forms that name memory (R303). -/
def rolForms (b : Byte) (a : Word) : List MemForm :=
  [⟨.rolZp b, .zp b, 5⟩,
   ⟨.rolAbs a, .abs a, 6⟩,
   ⟨.rolZpX b, .zpX b, 6⟩,
   ⟨.rolAbsX a, .absX a, 7⟩]

/-- The ROR forms that name memory (R303). -/
def rorForms (b : Byte) (a : Word) : List MemForm :=
  [⟨.rorZp b, .zp b, 5⟩,
   ⟨.rorAbs a, .abs a, 6⟩,
   ⟨.rorZpX b, .zpX b, 6⟩,
   ⟨.rorAbsX a, .absX a, 7⟩]

/-- The SLO forms that name memory (R303, R305). -/
def sloForms (b : Byte) (a : Word) : List MemForm :=
  [⟨.sloIndX b, .indX b, 8⟩,
   ⟨.sloZp b, .zp b, 5⟩,
   ⟨.sloAbs a, .abs a, 6⟩,
   ⟨.sloIndY b, .indY b, 8⟩,
   ⟨.sloZpX b, .zpX b, 6⟩,
   ⟨.sloAbsY a, .absY a, 7⟩,
   ⟨.sloAbsX a, .absX a, 7⟩]

/-- The RLA forms that name memory (R303, R305). -/
def rlaForms (b : Byte) (a : Word) : List MemForm :=
  [⟨.rlaIndX b, .indX b, 8⟩,
   ⟨.rlaZp b, .zp b, 5⟩,
   ⟨.rlaAbs a, .abs a, 6⟩,
   ⟨.rlaIndY b, .indY b, 8⟩,
   ⟨.rlaZpX b, .zpX b, 6⟩,
   ⟨.rlaAbsY a, .absY a, 7⟩,
   ⟨.rlaAbsX a, .absX a, 7⟩]

/-- The SRE forms that name memory (R303, R305). -/
def sreForms (b : Byte) (a : Word) : List MemForm :=
  [⟨.sreIndX b, .indX b, 8⟩,
   ⟨.sreZp b, .zp b, 5⟩,
   ⟨.sreAbs a, .abs a, 6⟩,
   ⟨.sreIndY b, .indY b, 8⟩,
   ⟨.sreZpX b, .zpX b, 6⟩,
   ⟨.sreAbsY a, .absY a, 7⟩,
   ⟨.sreAbsX a, .absX a, 7⟩]

/-- The RRA forms that name memory (R303, R305). -/
def rraForms (b : Byte) (a : Word) : List MemForm :=
  [⟨.rraIndX b, .indX b, 8⟩,
   ⟨.rraZp b, .zp b, 5⟩,
   ⟨.rraAbs a, .abs a, 6⟩,
   ⟨.rraIndY b, .indY b, 8⟩,
   ⟨.rraZpX b, .zpX b, 6⟩,
   ⟨.rraAbsY a, .absY a, 7⟩,
   ⟨.rraAbsX a, .absX a, 7⟩]

/-- The DCP forms that name memory (R303, R305). -/
def dcpForms (b : Byte) (a : Word) : List MemForm :=
  [⟨.dcpIndX b, .indX b, 8⟩,
   ⟨.dcpZp b, .zp b, 5⟩,
   ⟨.dcpAbs a, .abs a, 6⟩,
   ⟨.dcpIndY b, .indY b, 8⟩,
   ⟨.dcpZpX b, .zpX b, 6⟩,
   ⟨.dcpAbsY a, .absY a, 7⟩,
   ⟨.dcpAbsX a, .absX a, 7⟩]

/-- The ISB forms that name memory (R303, R305). -/
def isbForms (b : Byte) (a : Word) : List MemForm :=
  [⟨.isbIndX b, .indX b, 8⟩,
   ⟨.isbZp b, .zp b, 5⟩,
   ⟨.isbAbs a, .abs a, 6⟩,
   ⟨.isbIndY b, .indY b, 8⟩,
   ⟨.isbZpX b, .zpX b, 6⟩,
   ⟨.isbAbsY a, .absY a, 7⟩,
   ⟨.isbAbsX a, .absX a, 7⟩]

/-- The implied NOPs (R573, R601). -/
def nopImplied : List Instr := [.nopImp1A, .nopImp3A, .nopImp5A, .nopImp7A, .nopImpDA, .nop, .nopImpFA]

/-- Every instruction that reads an operand and stores nothing. -/
def readForms (b : Byte) (a : Word) : List ReadForm :=
  ldaForms b a ++ ldxForms b a ++ ldyForms b a ++ laxForms b a ++ adcForms b a ++ sbcForms b a ++
  andForms b a ++ oraForms b a ++ eorForms b a ++ cmpForms b a ++ cpxForms b a ++ cpyForms b a ++
  bitForms b a ++ ancForms b a ++ alrForms b a ++ arrForms b a ++ axsForms b a ++ nopForms b a ++
  sbcRedundantForms b a

/-- Every instruction that stores one byte computed from the registers. -/
def storeForms (b : Byte) (a : Word) : List MemForm :=
  staForms b a ++ stxForms b a ++ styForms b a ++ saxForms b a

/-- Every instruction that reads, modifies and writes memory. -/
def rmwForms (b : Byte) (a : Word) : List MemForm :=
  incForms b a ++ decForms b a ++ aslForms b a ++ lsrForms b a ++ rolForms b a ++ rorForms b a ++
  sloForms b a ++ rlaForms b a ++ sreForms b a ++ rraForms b a ++ dcpForms b a ++ isbForms b a

/-- The twenty opcodes the spec refuses, with their opcode bytes (R310). -/
def refusedForms : List (Instr × Byte) :=
  [(.jam02, 0x02),
   (.jam12, 0x12),
   (.jam22, 0x22),
   (.jam32, 0x32),
   (.jam42, 0x42),
   (.jam52, 0x52),
   (.jam62, 0x62),
   (.jam72, 0x72),
   (.xaa8B, 0x8B),
   (.jam92, 0x92),
   (.sha93, 0x93),
   (.tas9B, 0x9B),
   (.shy9C, 0x9C),
   (.shx9E, 0x9E),
   (.sha9F, 0x9F),
   (.lxaAB, 0xAB),
   (.jamB2, 0xB2),
   (.lasBB, 0xBB),
   (.jamD2, 0xD2),
   (.jamF2, 0xF2)]
/-- A conditional branch, and the condition on the flags under which it is taken (R551-R558). -/
def branchForms (b : Byte) : List (Instr × (Flags → Bool)) :=
  [(.bpl b, fun f => !f.n), (.bmi b, fun f => f.n), (.bvc b, fun f => !f.v), (.bvs b, fun f => f.v),
   (.bcc b, fun f => !f.c), (.bcs b, fun f => f.c), (.bne b, fun f => !f.z), (.beq b, fun f => f.z)]

/-! ### What the forms do -/

/-- The state with its CPU registers replaced. -/
def State.withCpu (s : State) (c : Cpu) : State := { s with cpu := c }

/-- Z and N set from `v` (R19). -/
def Cpu.withZN (c : Cpu) (v : Byte) : Cpu := { c with flags := { c.flags with z := v == 0, n := v.msb } }

/-- The cycles of a read form at `s`: its base, and one more if it has the page penalty and its address crosses a page
(R410, R411). -/
def ReadForm.count (f : ReadForm) (s : State) : Nat :=
  f.cycles + (if f.penalty = true ∧ (f.operand.load s).crossed = true then 1 else 0)

/-- A read form that does `use` with the byte it reads: the state after its reads, the CPU registers `use` gives, and
its cycles. -/
def ReadForm.result (f : ReadForm) (s : State) (use : Byte → Cpu → Cpu) : State :=
  (f.operand.load s).st.withCpu
    { use (f.operand.load s).value s.cpu with cycles := s.cpu.cycles + f.count s }

/-- A store form that stores `v` at its effective address, with its cycles. -/
def MemForm.stored (f : MemForm) (s : State) (v : Byte) : State :=
  (s.write (f.mem.resolve s).ea v).addCycles f.cycles

/-- The state after the accesses of a read-modify-write at `ea`: the read, the write of the unmodified byte where
RMW_DUMMY_WRITE is set, the write of `r` of it (R502, log 6). -/
def State.modify (s : State) (ea : Word) (r : Byte → Byte) : State :=
  let q := s.read ea
  (if s.settings.rmwDummyWrite = true then q.2.write ea q.1 else q.2).write ea (r q.1)

/-- A read-modify-write form that writes `r` of the byte it reads and then does `use` with that byte. -/
def MemForm.modified (f : MemForm) (s : State) (r : Byte → Byte) (use : Byte → Cpu → Cpu) : State :=
  let u := s.modify (f.mem.resolve s).ea r
  u.withCpu { use (s.read (f.mem.resolve s).ea).1 u.cpu with cycles := s.cpu.cycles + f.cycles }

/-- Whether nothing stands before the next instruction (R400): not refused, a cartridge attached, no NMI, and no IRQ that
is not masked. -/
def State.ready (s : State) : Prop :=
  s.cpu.refused = false ∧ s.cart.attached = true ∧ s.cpu.nmiPending = false ∧
    (s.irqLine = false ∨ s.cpu.flags.i = true)

end Sys2Proof.Machine
end

