-- ==== Sys2Proof/Certificates/Slice0/Obligations.lean ====
section
/-! DEFINITION. The statements for the provers, each with the rules of the spec it rests on. -/

open Sys2Proof Sys2Proof.Machine

/-! ### Encoding -/

/-- Encoding an instruction and decoding what follows gives the instruction back, and the bytes after it (R300, R302,
R303). Every operand value is covered, the refused opcodes too. The byte assignments and the operand widening are
passages the spec marks as general knowledge (R300, R302, R303). -/
def Obligations.EncodeThenDecode : Prop :=
  ∀ (i : Instr) (rest : List Byte), decode (encode i ++ rest) = .instr i rest

/-- Each word has one meaning: bytes that decode to an instruction are its encoding, followed by the rest (R300). The
lengths are a passage the spec marks as general knowledge (R300). -/
def Obligations.DecodeThenEncode : Prop :=
  ∀ (bytes : List Byte) (i : Instr) (rest : List Byte), decode bytes = .instr i rest → bytes = encode i ++ rest

/-- Words written out from the table of R303 decode to what they stand for: one of each length and tier. The byte
assignments are a passage the spec marks as general knowledge (R303). -/
def Obligations.WordsDecodeAsTheTableSays : Prop :=
  decode [0xBD, 0xFF, 0x02] = .instr (.ldaAbsX 0x02FF) [] ∧
  decode [0x6C, 0xFF, 0x02] = .instr (.jmpInd 0x02FF) [] ∧
  decode [0x96, 0x10, 0x99] = .instr (.stxZpY 0x10) [0x99] ∧
  decode [0xD0, 0xFB] = .instr (.bne 0xFB) [] ∧
  decode [0xD3, 0x40] = .instr (.dcpIndY 0x40) [] ∧
  decode [0x40] = .instr .rti [] ∧
  decode [0x02, 0x34] = .instr .jam02 [0x34] ∧
  decode [0x20, 0x00] = .truncated 0x20 ∧
  decode [] = .noBytes

/-- 151 documented, 85 admitted undocumented and 20 refused opcodes (R304), and the refused ones are exactly those of
R310. The counts are an inference the spec marks as its own (R304); that the 20 opcodes are refused is its decision
D2. -/
def Obligations.OpcodeCounts : Prop :=
  ((List.range 256).countP fun n => (rowOf (BitVec.ofNat 8 n)).tier == .documented) = 151 ∧
  ((List.range 256).countP fun n => (rowOf (BitVec.ofNat 8 n)).tier == .illegal) = 85 ∧
  ∀ i : Instr, i.wellFormed = false ↔ ∃ op, (i, op) ∈ refusedForms

/-! ### The step and the fetch -/

/-- A step runs the decoded instruction (R400-R402): where nothing stands before the next instruction and the three
bytes from PC on lie in plain memory and decode to `i`, the step is `exec i` on the state whose PC has passed `i`'s
bytes, then the fan-out of the cycles `i` took, then a pending OAM-DMA; a refusal of `exec` is the step's. When the
cycles are fanned out is the spec's decision D10; the split between `exec` and the step is the model's (log 8). -/
def Obligations.StepRunsDecodedInstruction : Prop :=
  ∀ (s : State) (i : Instr) (rest : List Byte), s.ready →
    plainAddress s.cpu.pc = true → plainAddress (s.cpu.pc + 1) = true → plainAddress (s.cpu.pc + 2) = true →
    decode [s.peek s.cpu.pc, s.peek (s.cpu.pc + 1), s.peek (s.cpu.pc + 2)] = .instr i rest →
    let s1 := s.withCpu { s.cpu with pc := s.cpu.pc + BitVec.ofNat 16 (encode i).length }
    (∀ t, exec i s1 = .next t →
      let u := t.tick (t.cpu.cycles - s.cpu.cycles)
      step s = .next (if u.bus.dmaPending = true then u.oamDma else u)) ∧
    (∀ r, exec i s1 = .refused r → step s = .refused r)

/-- The fetch anywhere in the address space (R402): the opcode and then its operand bytes are ordinary bus reads at
rising addresses, each made on the state the one before it left; PC moves past them and no other register changes.
That nothing else is read during a fetch is the spec's decision D6. -/
def Obligations.FetchReadsTheInstruction : Prop :=
  ∀ s : State,
    let pc := s.cpu.pc
    let r0 := s.read pc
    let r1 := r0.2.read (pc + 1)
    let r2 := r1.2.read (pc + 2)
    let n := lengthOf r0.1
    s.fetchInstr.2.cpu = { s.cpu with pc := pc + BitVec.ofNat 16 n } ∧
    s.fetchInstr.1 = instrOf r0.1 r1.1 r2.1 ∧
    (n = 1 → s.fetchInstr.2 = r0.2.withCpu s.fetchInstr.2.cpu) ∧
    (n = 2 → s.fetchInstr.2 = r1.2.withCpu s.fetchInstr.2.cpu) ∧
    (n = 3 → s.fetchInstr.2 = r2.2.withCpu s.fetchInstr.2.cpu) ∧
    (s.ready → ∀ t, exec s.fetchInstr.1 s.fetchInstr.2 = .next t →
      step s = .next (t.finishStep (t.cpu.cycles - s.cpu.cycles)))

/-- Every admitted instruction completes in every state, and counts its base cycles, plus one at most for an entry
with the page penalty, plus one or two for a branch taken, and nothing else (R410, R413). The cycle counts are a
passage the spec marks as general knowledge (R303, R411, R412). -/
def Obligations.AdmittedInstructionsComplete : Prop :=
  ∀ (i : Instr) (s : State), i.wellFormed = true →
    ∃ t extra, exec i s = .next t ∧ t.cpu.cycles = s.cpu.cycles + i.row.baseCycles + extra ∧
      (extra = 0 ∨ (i.row.pagePenalty = true ∧ extra = 1) ∨
        (i.row.mode = some .relative ∧ (extra = 1 ∨ extra = 2)))

/-- The refused opcodes stop, in every state, under their opcode byte, and the mark a refused step leaves has no
successor (R110, R310). The refusal is the spec's decision D2 (log 7). -/
def Obligations.RefusedOpcodesStop : Prop :=
  ∀ (i : Instr) (op : Byte) (s : State), (i, op) ∈ refusedForms →
    exec i s = .refused (.opcode op) ∧ encode i = [op] ∧
    (s.afterRefusal.cpu = { s.cpu with refused := true } ∧ step s.afterRefusal = .refused .alreadyRefused)

/-! ### Operands -/

/-- The effective address of every memory mode and where it crosses a page (R411, R421-R424), as numbers; the pointers
of the indirect modes come from the zero page and wrap in it; resolving changes no state. Reading a memory operand is
one bus read of the effective address, reading an immediate none (R420, R427). The indexed modes are passages the spec
marks as general knowledge (R411, R423); that no dummy read is made is its decision D6. -/
def Obligations.EffectiveAddresses : Prop :=
  ∀ (s : State) (b : Byte) (a : Word),
    let x := s.cpu.x.toNat
    let y := s.cpu.y.toNat
    let p := (b.toNat + x) % 256
    let px := (s.peek (BitVec.ofNat 16 p)).toNat + 256 * (s.peek (BitVec.ofNat 16 ((p + 1) % 256))).toNat
    let py := (s.peek (BitVec.ofNat 16 b.toNat)).toNat + 256 * (s.peek (BitVec.ofNat 16 ((b.toNat + 1) % 256))).toNat
    ((Mem.zp b).resolve s).ea.toNat = b.toNat ∧
    ((Mem.zpX b).resolve s).ea.toNat = (b.toNat + x) % 256 ∧
    ((Mem.zpY b).resolve s).ea.toNat = (b.toNat + y) % 256 ∧
    ((Mem.abs a).resolve s).ea = a ∧
    ((Mem.absX a).resolve s).ea.toNat = (a.toNat + x) % 65536 ∧
    ((Mem.absY a).resolve s).ea.toNat = (a.toNat + y) % 65536 ∧
    ((Mem.indX b).resolve s).ea.toNat = px ∧
    ((Mem.indY b).resolve s).ea.toNat = (py + y) % 65536 ∧
    (((Mem.absX a).resolve s).crossed = true ↔ a.toNat / 256 ≠ (a.toNat + x) % 65536 / 256) ∧
    (((Mem.absY a).resolve s).crossed = true ↔ a.toNat / 256 ≠ (a.toNat + y) % 65536 / 256) ∧
    (((Mem.indY b).resolve s).crossed = true ↔ py / 256 ≠ (py + y) % 65536 / 256) ∧
    (∀ m ∈ [Mem.zp b, .zpX b, .zpY b, .abs a, .indX b], (m.resolve s).crossed = false) ∧
    (∀ m : Mem, (m.resolve s).st = s ∧ (Operand.mem m).load s =
      { value := (s.read (m.resolve s).ea).1, crossed := (m.resolve s).crossed, st := (s.read (m.resolve s).ea).2 }) ∧
    (Operand.imm b).load s = { value := b, crossed := false, st := s }

/-- The frame of every instruction that reads an operand and stores nothing: every byte of every memory reads as
before; the stack index, PC, the interrupt latches and the flags I and D are unchanged; the devices change only as a
bus read changes them, and not at all where the operand is an immediate or lies in plain memory (R223, R428). The bus
accesses of an instruction are those of the spec's decisions D5 and D6 (R428). -/
def Obligations.ReadingInstructionsFrame : Prop :=
  ∀ (b : Byte) (a : Word) (s t : State), ∀ f ∈ readForms b a, exec f.instr s = .next t →
    SameMemories s t ∧ SameBusRegisters s t ∧ ReadFrame s (t.withCpu s.cpu) ∧
    (∀ m, f.operand = .mem m → plainAddress (m.resolve s).ea = true → SameDevices s t) ∧
    (∀ v, f.operand = .imm v → SameDevices s t) ∧
    t.cpu.sp = s.cpu.sp ∧ t.cpu.pc = s.cpu.pc ∧
    t.cpu.nmiPending = s.cpu.nmiPending ∧ t.cpu.hostIrq = s.cpu.hostIrq ∧ t.cpu.refused = s.cpu.refused ∧
    t.cpu.flags.i = s.cpu.flags.i ∧ t.cpu.flags.d = s.cpu.flags.d

/-! ### Loads, arithmetic, logic, compares -/

/-- LDA, LDX, LDY and LAX (R450-R453, R605): the register (for LAX, A and X) takes the byte read, Z and N are set from
it, nothing else in the CPU changes but the cycle count. The spec marks these rules as general knowledge. -/
def Obligations.LoadsSetRegisterAndFlags : Prop :=
  ∀ (b : Byte) (a : Word) (s : State),
    (∀ f ∈ ldaForms b a, exec f.instr s = .next (f.result s fun v c => { c with a := v }.withZN v)) ∧
    (∀ f ∈ ldxForms b a, exec f.instr s = .next (f.result s fun v c => { c with x := v }.withZN v)) ∧
    (∀ f ∈ ldyForms b a, exec f.instr s = .next (f.result s fun v c => { c with y := v }.withZN v)) ∧
    (∀ f ∈ laxForms b a, exec f.instr s = .next (f.result s fun v c => { c with a := v, x := v }.withZN v))

/-- ADC and SBC (R500): binary whatever D is. ADC: C when the unsigned sum exceeds 0xFF, V by the formula of the rule.
SBC is ADC with the operand complemented: A takes A - m - (1 - C), C when the subtraction does not borrow. -/
def Obligations.AdcAndSbcAreBinary : Prop :=
  ∀ (b : Byte) (a : Word) (s : State),
    (∀ f ∈ adcForms b a, exec f.instr s = .next (f.result s fun m c =>
      let sum := c.a.toNat + m.toNat + (if c.flags.c = true then 1 else 0)
      let r : Byte := BitVec.ofNat 8 (sum % 256)
      { c with
        a := r
        flags := { c.flags with
          c := decide (0xFF < sum)
          v := (~~~(c.a ^^^ m) &&& (c.a ^^^ r)).msb
          z := r == 0
          n := r.msb } })) ∧
    (∀ f ∈ sbcForms b a, exec f.instr s = .next (f.result s fun m c =>
      let r : Byte := c.a - m - (if c.flags.c = true then 0 else 1)
      { c with
        a := r
        flags := { c.flags with
          c := decide (m.toNat + (if c.flags.c = true then 0 else 1) ≤ c.a.toNat)
          v := (~~~(c.a ^^^ ~~~m) &&& (c.a ^^^ r)).msb
          z := r == 0
          n := r.msb } }))

/-- After ADC and SBC, V is set exactly when the sum or difference of the signed operands is not a signed byte (R500,
R510, R511). That the formula of R500 means this is a consequence, not a sentence of the spec. -/
def Obligations.OverflowIsSigned : Prop :=
  ∀ (b : Byte) (a : Word) (s : State),
    (∀ f ∈ adcForms b a, ∃ t, exec f.instr s = .next t ∧
      let e := s.cpu.a.toInt + (f.operand.load s).value.toInt + (if s.cpu.flags.c = true then 1 else 0)
      (t.cpu.flags.v = true ↔ e < -128 ∨ 127 < e) ∧ (t.cpu.flags.v = false → t.cpu.a.toInt = e)) ∧
    (∀ f ∈ sbcForms b a, ∃ t, exec f.instr s = .next t ∧
      let e := s.cpu.a.toInt - (f.operand.load s).value.toInt - (if s.cpu.flags.c = true then 0 else 1)
      (t.cpu.flags.v = true ↔ e < -128 ∨ 127 < e) ∧ (t.cpu.flags.v = false → t.cpu.a.toInt = e))

/-- AND, ORA and EOR (R512-R514), bit by bit: A takes the logical result, Z and N are set from it, C and V are
unchanged. The spec marks these rules as general knowledge. -/
def Obligations.LogicIsBitwise : Prop :=
  ∀ (b : Byte) (a : Word) (s : State),
    (∀ f ∈ andForms b a, ∃ r : Byte, (∀ i : Nat, r.getLsbD i = (s.cpu.a.getLsbD i && (f.operand.load s).value.getLsbD i)) ∧
      exec f.instr s = .next (f.result s fun _ c => { c with a := r }.withZN r)) ∧
    (∀ f ∈ oraForms b a, ∃ r : Byte, (∀ i : Nat, r.getLsbD i = (s.cpu.a.getLsbD i || (f.operand.load s).value.getLsbD i)) ∧
      exec f.instr s = .next (f.result s fun _ c => { c with a := r }.withZN r)) ∧
    (∀ f ∈ eorForms b a, ∃ r : Byte, (∀ i : Nat, r.getLsbD i = (s.cpu.a.getLsbD i != (f.operand.load s).value.getLsbD i)) ∧
      exec f.instr s = .next (f.result s fun _ c => { c with a := r }.withZN r))

/-- CMP, CPX and CPY (R501, R515-R517): C when the register is at least the operand, unsigned; Z and N from the
truncated difference; the registers and V are unchanged. -/
def Obligations.ComparesSetFlags : Prop :=
  ∀ (b : Byte) (a : Word) (s : State),
    (∀ f ∈ cmpForms b a, exec f.instr s = .next (f.result s fun m c =>
      { c with flags := { c.flags with c := decide (m.toNat ≤ c.a.toNat), z := c.a == m, n := (c.a - m).msb } })) ∧
    (∀ f ∈ cpxForms b a, exec f.instr s = .next (f.result s fun m c =>
      { c with flags := { c.flags with c := decide (m.toNat ≤ c.x.toNat), z := c.x == m, n := (c.x - m).msb } })) ∧
    (∀ f ∈ cpyForms b a, exec f.instr s = .next (f.result s fun m c =>
      { c with flags := { c.flags with c := decide (m.toNat ≤ c.y.toNat), z := c.y == m, n := (c.y - m).msb } }))

/-- BIT (R518): Z when A and the byte share no bit, V and N are bits 6 and 7 of the byte; A and C are unchanged. The
spec marks this rule as general knowledge. -/
def Obligations.BitTestsTheByte : Prop :=
  ∀ (b : Byte) (a : Word) (s : State), ∀ f ∈ bitForms b a, exec f.instr s = .next (f.result s fun m c =>
    { c with flags := { c.flags with z := c.a &&& m == 0, v := m.getLsbD 6, n := m.msb } })

/-- The undocumented immediates (R613-R617): ANC, ALR, ARR, AXS and the redundant SBC. The spec marks these rules as
general knowledge. -/
def Obligations.ImmediateCombinations : Prop :=
  ∀ (b : Byte) (a : Word) (s : State),
    (∀ f ∈ ancForms b a, exec f.instr s = .next (f.result s fun m c =>
      let r := c.a &&& m
      { { c with a := r }.withZN r with flags := { ({ c with a := r }.withZN r).flags with c := r.msb } })) ∧
    (∀ f ∈ alrForms b a, exec f.instr s = .next (f.result s fun m c =>
      let r := (c.a &&& m) >>> 1
      { c with a := r, flags := { c.flags with c := (c.a &&& m).getLsbD 0, z := r == 0, n := false } })) ∧
    (∀ f ∈ arrForms b a, ∃ r : Byte, (r.msb = s.cpu.flags.c ∧
        ∀ i < 7, r.getLsbD i = (s.cpu.a &&& (f.operand.load s).value).getLsbD (i + 1)) ∧
      exec f.instr s = .next (f.result s fun _ c =>
        { c with
          a := r
          flags := { c.flags with c := r.getLsbD 6, v := r.getLsbD 6 != r.getLsbD 5, z := r == 0, n := r.msb } })) ∧
    (∀ f ∈ axsForms b a, exec f.instr s = .next (f.result s fun m c =>
      let r := (c.a &&& c.x) - m
      { c with
        x := r
        flags := { c.flags with c := decide (m.toNat ≤ (c.a &&& c.x).toNat), z := r == 0, n := r.msb } })) ∧
    (∀ f ∈ sbcRedundantForms b a, ∃ t, exec f.instr s = .next t ∧ exec (.sbcImm b) s = .next t)

/-- Every NOP (R573, R601-R603, R306): the implied ones count two cycles; the others read their operand and discard
it; none changes a register or a flag. The spec marks these rules as general knowledge; that the operand is read is
its decisions D3 and D4. -/
def Obligations.NopsOnlyRead : Prop :=
  ∀ (b : Byte) (a : Word) (s : State),
    (∀ i ∈ nopImplied, exec i s = .next (s.addCycles 2)) ∧
    (∀ f ∈ nopForms b a, exec f.instr s = .next (f.result s fun _ c => c))

/-! ### Stores and read-modify-writes -/

/-- STA, STX, STY and SAX (R454-R456, R606): one write of the register (for SAX, of A and X) at the effective address,
and the base cycles, with no page extra. The spec marks SAX and the encodings of the stores as general knowledge. -/
def Obligations.StoresWriteOneByte : Prop :=
  ∀ (b : Byte) (a : Word) (s : State),
    (∀ f ∈ staForms b a, exec f.instr s = .next (f.stored s s.cpu.a)) ∧
    (∀ f ∈ stxForms b a, exec f.instr s = .next (f.stored s s.cpu.x)) ∧
    (∀ f ∈ styForms b a, exec f.instr s = .next (f.stored s s.cpu.y)) ∧
    (∀ f ∈ saxForms b a, exec f.instr s = .next (f.stored s (s.cpu.a &&& s.cpu.x)))

/-- The memory forms of INC, DEC, ASL, LSR, ROL and ROR (R502, R503, R519, R520, R525-R528): one read, the write of
the unmodified byte where RMW_DUMMY_WRITE is set (log 6), the write of the result; Z and N from the result; the shifts
set C from the bit shifted out, INC and DEC leave it. The write of the unmodified byte is the spec's decision D5; the
functions are passages it marks as general knowledge (R503). -/
def Obligations.ReadModifyWrite : Prop :=
  ∀ (b : Byte) (a : Word) (s : State),
    let top : Byte := if s.cpu.flags.c = true then 0x80 else 0
    let low : Byte := if s.cpu.flags.c = true then 1 else 0
    (∀ f ∈ incForms b a, exec f.instr s = .next (f.modified s (· + 1) fun m c => c.withZN (m + 1))) ∧
    (∀ f ∈ decForms b a, exec f.instr s = .next (f.modified s (· - 1) fun m c => c.withZN (m - 1))) ∧
    (∀ f ∈ aslForms b a, exec f.instr s = .next (f.modified s (fun m => m <<< 1) fun m c =>
      { c with flags := { c.flags with c := m.msb } }.withZN (m <<< 1))) ∧
    (∀ f ∈ lsrForms b a, exec f.instr s = .next (f.modified s (fun m => m >>> 1) fun m c =>
      { c with flags := { c.flags with c := m.getLsbD 0 } }.withZN (m >>> 1))) ∧
    (∀ f ∈ rolForms b a, exec f.instr s = .next (f.modified s (fun m => m <<< 1 ||| low) fun m c =>
      { c with flags := { c.flags with c := m.msb } }.withZN (m <<< 1 ||| low))) ∧
    (∀ f ∈ rorForms b a, exec f.instr s = .next (f.modified s (fun m => m >>> 1 ||| top) fun m c =>
      { c with flags := { c.flags with c := m.getLsbD 0 } }.withZN (m >>> 1 ||| top)))

/-- The combined forms SLO, RLA, SRE, RRA, DCP and ISB (R600, R607-R612): the memory step of the instruction each is
named after, then the register step on the written result; RRA adds the carry that the rotate shifted out. The spec
marks these rules as general knowledge; the write of the unmodified byte, where RMW_DUMMY_WRITE is set, is its decision
D5 (log 6). -/
def Obligations.CombinedReadModifyWrite : Prop :=
  ∀ (b : Byte) (a : Word) (s : State),
    let top : Byte := if s.cpu.flags.c = true then 0x80 else 0
    let low : Byte := if s.cpu.flags.c = true then 1 else 0
    (∀ f ∈ sloForms b a, exec f.instr s = .next (f.modified s (fun m => m <<< 1) fun m c =>
      { c with a := c.a ||| m <<< 1, flags := { c.flags with c := m.msb } }.withZN (c.a ||| m <<< 1))) ∧
    (∀ f ∈ rlaForms b a, exec f.instr s = .next (f.modified s (fun m => m <<< 1 ||| low) fun m c =>
      { c with a := c.a &&& (m <<< 1 ||| low), flags := { c.flags with c := m.msb } }.withZN
        (c.a &&& (m <<< 1 ||| low)))) ∧
    (∀ f ∈ sreForms b a, exec f.instr s = .next (f.modified s (fun m => m >>> 1) fun m c =>
      { c with a := c.a ^^^ m >>> 1, flags := { c.flags with c := m.getLsbD 0 } }.withZN (c.a ^^^ m >>> 1))) ∧
    (∀ f ∈ rraForms b a, exec f.instr s = .next (f.modified s (fun m => m >>> 1 ||| top) fun m c =>
      let r := m >>> 1 ||| top
      let sum := c.a.toNat + r.toNat + (if m.getLsbD 0 = true then 1 else 0)
      let q : Byte := BitVec.ofNat 8 sum
      { c with
        a := q
        flags := { c.flags with
          c := decide (0xFF < sum), v := (~~~(c.a ^^^ r) &&& (c.a ^^^ q)).msb, z := q == 0, n := q.msb } })) ∧
    (∀ f ∈ dcpForms b a, exec f.instr s = .next (f.modified s (· - 1) fun m c =>
      { c with flags := { c.flags with
          c := decide ((m - 1).toNat ≤ c.a.toNat), z := c.a == m - 1, n := (c.a - (m - 1)).msb } })) ∧
    (∀ f ∈ isbForms b a, exec f.instr s = .next (f.modified s (· + 1) fun m c =>
      let q : Byte := c.a - (m + 1) - (if c.flags.c = true then 0 else 1)
      { c with
        a := q
        flags := { c.flags with
          c := decide ((m + 1).toNat + (if c.flags.c = true then 0 else 1) ≤ c.a.toNat)
          v := (~~~(c.a ^^^ ~~~(m + 1)) &&& (c.a ^^^ q)).msb
          z := q == 0
          n := q.msb } }))

/-- The frame of every instruction that stores to memory, at the address the meaning stores to: every other byte of
plain memory reads as before, except that a store from $8000 on may switch the PRG banks an MMC3 shows there; no device
changes that the address does not name: not the PPU, not the APU, not the DMA latch, the strobe or the shift registers,
not CHR memory unless the address names $2007, not the MMC3 below $8000 unless it names $2007; X, Y, the stack index, PC,
the host's latch and the flags I and D are unchanged, and a plain store changes A and the flags neither (R201, R211, R223,
R502). The write of the unmodified byte is the spec's decision D5 (log 6). -/
def Obligations.StoringInstructionsFrame : Prop :=
  ∀ (b : Byte) (a : Word) (s t : State), ∀ f ∈ storeForms b a ++ rmwForms b a, exec f.instr s = .next t →
    StoreFrame (f.mem.resolve s).ea s t ∧ NmiLatchFrame (f.mem.resolve s).ea s t ∧
    t.cpu.x = s.cpu.x ∧ t.cpu.y = s.cpu.y ∧ t.cpu.sp = s.cpu.sp ∧ t.cpu.pc = s.cpu.pc ∧
    t.cpu.hostIrq = s.cpu.hostIrq ∧ t.cpu.refused = s.cpu.refused ∧
    t.cpu.flags.i = s.cpu.flags.i ∧ t.cpu.flags.d = s.cpu.flags.d ∧
    (f ∈ storeForms b a → t.cpu.a = s.cpu.a ∧ t.cpu.flags = s.cpu.flags)

/-! ### Registers, flags, the stack -/

/-- The accumulator forms of the shifts (R503, R525-R528): no bus access, C from the bit shifted out, Z and N from the
result. The spec marks these rules as general knowledge. -/
def Obligations.AccumulatorShifts : Prop :=
  ∀ s : State,
    let c := s.cpu
    let top : Byte := if c.flags.c = true then 0x80 else 0
    let low : Byte := if c.flags.c = true then 1 else 0
    let shifted (r : Byte) (out : Bool) : State := s.withCpu
      { { c with a := r, flags := { c.flags with c := out } }.withZN r with cycles := c.cycles + 2 }
    exec .aslAcc s = .next (shifted (c.a <<< 1) c.a.msb) ∧
    exec .lsrAcc s = .next (shifted (c.a >>> 1) (c.a.getLsbD 0)) ∧
    exec .rolAcc s = .next (shifted (c.a <<< 1 ||| low) c.a.msb) ∧
    exec .rorAcc s = .next (shifted (c.a >>> 1 ||| top) (c.a.getLsbD 0))

/-- The transfers and the register counts (R457-R462, R521-R524): one register takes its new value, Z and N are set
from it except by TXS; nothing else changes. The spec marks these rules as general knowledge. -/
def Obligations.TransfersAndCounts : Prop :=
  ∀ s : State,
    let c := s.cpu
    let done (d : Cpu) : State := s.withCpu { d with cycles := c.cycles + 2 }
    exec .tax s = .next (done ({ c with x := c.a }.withZN c.a)) ∧
    exec .tay s = .next (done ({ c with y := c.a }.withZN c.a)) ∧
    exec .txa s = .next (done ({ c with a := c.x }.withZN c.x)) ∧
    exec .tya s = .next (done ({ c with a := c.y }.withZN c.y)) ∧
    exec .tsx s = .next (done ({ c with x := c.sp }.withZN c.sp)) ∧
    exec .txs s = .next (done { c with sp := c.x }) ∧
    exec .inx s = .next (done ({ c with x := c.x + 1 }.withZN (c.x + 1))) ∧
    exec .iny s = .next (done ({ c with y := c.y + 1 }.withZN (c.y + 1))) ∧
    exec .dex s = .next (done ({ c with x := c.x - 1 }.withZN (c.x - 1))) ∧
    exec .dey s = .next (done ({ c with y := c.y - 1 }.withZN (c.y - 1)))

/-- The flag instructions (R565-R571): one flag is set or cleared, in two cycles; nothing else changes. The spec marks
these rules as general knowledge. -/
def Obligations.FlagInstructions : Prop :=
  ∀ s : State,
    let f := s.cpu.flags
    let done (g : Flags) : State := s.withCpu { s.cpu with flags := g, cycles := s.cpu.cycles + 2 }
    exec .clc s = .next (done { f with c := false }) ∧ exec .sec s = .next (done { f with c := true }) ∧
    exec .cli s = .next (done { f with i := false }) ∧ exec .sei s = .next (done { f with i := true }) ∧
    exec .cld s = .next (done { f with d := false }) ∧ exec .sed s = .next (done { f with d := true }) ∧
    exec .clv s = .next (done { f with v := false })

/-- PHA, PLA and PLP (R105, R467-R469, R471): PHA stores A at the stack address and decrements S; the pulls increment
S, which wraps, and read the stack; PLA sets Z and N, PLP loads all six stored flags. The order of access and count of
the stack index is a passage the spec marks as general knowledge (R467). -/
def Obligations.PhaPlaPlp : Prop :=
  ∀ s : State,
    (∃ t, exec .pha s = .next t ∧ Pushed [s.cpu.a] s t ∧
      t.cpu = { s.cpu with sp := s.cpu.sp - 1, cycles := s.cpu.cycles + 3 }) ∧
    (let v := s.peek (stackAddr (s.cpu.sp + 1))
     exec .pla s = .next (s.withCpu
      { { s.cpu with a := v, sp := s.cpu.sp + 1 }.withZN v with cycles := s.cpu.cycles + 4 }) ∧
     exec .plp s = .next (s.withCpu { s.cpu with
      sp := s.cpu.sp + 1
      cycles := s.cpu.cycles + 4
      flags :=
        { c := v.getLsbD 0, z := v.getLsbD 1, i := v.getLsbD 2, d := v.getLsbD 3, v := v.getLsbD 6, n := v.msb } }))

/-- PHP (R470): P is pushed with B and U set, the register P is unchanged. -/
def Obligations.PhpPushesBreakAndUnused : Prop :=
  ∀ s : State, ∃ t, exec .php s = .next t ∧ Pushed [s.p ||| 0x30] s t ∧ t.p = s.p ∧
    t.cpu = { s.cpu with sp := s.cpu.sp - 1, cycles := s.cpu.cycles + 3 }

/-- P as it is observed (R103): bit 5 is always 1 (and bit 4, R102, always 0); a whole write ignores bits 4 and 5 and
keeps the rest; BRK and PHP push both set, an interrupt pushes Unused set and Break cleared. It states the bytes;
which instruction pushes or writes them is stated with the instruction. -/
def Obligations.StatusBitsAsObserved : Prop :=
  ∀ (s : State) (v : Byte),
    s.p.getLsbD 5 = true ∧ s.p.getLsbD 4 = false ∧
    (Flags.ofByte v).toByte = (v &&& 0xCF) ||| 0x20 ∧
    s.cpu.flags.pushedByInstruction = s.p ||| 0x30 ∧
    s.cpu.flags.pushedByInterrupt = s.p &&& 0xEF ∧ s.cpu.flags.pushedByInterrupt.getLsbD 5 = true ∧
    Flags.ofByte s.p = s.cpu.flags

/-! ### Control transfer -/

/-- The conditional branches (R412, R426, R550-R558): a branch taken goes to the next instruction plus the signed
offset, one cycle more on the same page and two on another; a branch not taken changes only the cycles. The spec marks
the conditions, the offset and the cycles as general knowledge. -/
def Obligations.BranchesFollowTheFlag : Prop :=
  ∀ (b : Byte) (s : State), ∀ p ∈ branchForms b, ∃ target : Word,
    (target.toNat : Int) = ((s.cpu.pc.toNat : Int) + b.toInt) % 65536 ∧
    exec p.1 s = .next (s.withCpu { s.cpu with
      pc := if p.2 s.cpu.flags = true then target else s.cpu.pc
      cycles := s.cpu.cycles + 2 +
        (if p.2 s.cpu.flags = true then (if target.toNat / 256 = s.cpu.pc.toNat / 256 then 1 else 2) else 0) })

/-- JMP (R425, R560): the absolute form goes to its operand; the indirect form reads the low byte at the pointer and the
high byte at the next address of the SAME page. -/
def Obligations.JumpsFollowThePointer : Prop :=
  ∀ (a : Word) (s : State),
    exec (.jmpAbs a) s = .next (s.withCpu { s.cpu with pc := a, cycles := s.cpu.cycles + 3 }) ∧
    (∃ a2 : Word, a2.toNat = a.toNat / 256 * 256 + (a.toNat + 1) % 256 ∧
      let lo := s.read a
      let hi := lo.2.read a2
      exec (.jmpInd a) s = .next (hi.2.withCpu { s.cpu with
        pc := BitVec.ofNat 16 (lo.1.toNat + 256 * hi.1.toNat), cycles := s.cpu.cycles + 5 }))

/-- JSR and RTS (R561, R562): JSR pushes the address of its own last byte, high byte first, and jumps; RTS pulls the low
byte, then the high byte, and goes to that address plus one. What is pushed is the spec's resolution 90 C6: "the pushed
value is the address of the third (last) byte of JSR, the only reading under which the RTS contract returns to the
instruction after the JSR" (R561). -/
def Obligations.JsrAndRts : Prop :=
  ∀ (a : Word) (s : State),
    (∃ t, exec (.jsrAbs a) s = .next t ∧ Pushed [hiByte (s.cpu.pc - 1), loByte (s.cpu.pc - 1)] s t ∧
      t.cpu = { s.cpu with sp := s.cpu.sp - 2, pc := a, cycles := s.cpu.cycles + 6 }) ∧
    exec .rts s = .next (s.withCpu { s.cpu with
      sp := s.cpu.sp + 2
      pc := BitVec.ofNat 16 ((s.peek (stackAddr (s.cpu.sp + 1))).toNat +
        256 * (s.peek (stackAddr (s.cpu.sp + 2))).toNat + 1)
      cycles := s.cpu.cycles + 6 })

/-- RTI (R563, R725): P is pulled, with B ignored and U forced, then PC low and PC high, without adding one. The pull
order is a passage the spec marks as general knowledge (R563). -/
def Obligations.RtiPullsStatusAndPc : Prop :=
  ∀ s : State,
    let v := s.peek (stackAddr (s.cpu.sp + 1))
    exec .rti s = .next (s.withCpu { s.cpu with
      sp := s.cpu.sp + 3
      flags := { c := v.getLsbD 0, z := v.getLsbD 1, i := v.getLsbD 2, d := v.getLsbD 3, v := v.getLsbD 6, n := v.msb }
      pc := BitVec.ofNat 16 ((s.peek (stackAddr (s.cpu.sp + 2))).toNat +
        256 * (s.peek (stackAddr (s.cpu.sp + 3))).toNat)
      cycles := s.cpu.cycles + 6 })

/-- BRK (R575): the byte after the opcode is skipped, and the handler at ($FFFE) is entered with B and U set in the
pushed P. The pushed address, the setting of I and the vector are the spec's decision D54. -/
def Obligations.BrkEntersTheHandler : Prop :=
  ∀ s : State, ∃ t, exec .brk s = .next t ∧
    Entered (s.p ||| 0x30) 0xFFFE (s.withCpu { s.cpu with pc := s.cpu.pc + 1 }) t

/-- Returns undo entries (R561-R563, R725): RTS after JSR comes back behind the JSR with S as it was; RTI right after
any entry (NMI, IRQ, BRK) restores PC, the flags, I among them, and S. It is a consequence of the pull order, which
the spec marks as general knowledge. -/
def Obligations.ReturnsUndoEntries : Prop :=
  (∀ (a : Word) (s t : State), exec (.jsrAbs a) s = .next t →
    ∃ u, exec .rts t = .next u ∧ u.cpu = { s.cpu with cycles := s.cpu.cycles + 12 }) ∧
  (∀ (p : Byte) (vector : Word) (s t : State),
    p = s.cpu.flags.pushedByInstruction ∨ p = s.cpu.flags.pushedByInterrupt → Entered p vector s t →
    ∃ u, exec .rti t = .next u ∧ u.cpu = { s.cpu with cycles := s.cpu.cycles + 13 })

/-! ### Interrupts -/

/-- A pending NMI is the next step, whatever the IRQ line and I are (R400, R715, R720): the latch is cleared, the
handler at ($FFFA) is entered with B clear and U set in the pushed P, and the 7 cycles are fanned out. One transfer a
step is the spec's decision D9, the fan-out of the 7 cycles its decision D10. -/
def Obligations.NmiIsTakenFirst : Prop :=
  ∀ s : State, s.cpu.refused = false → s.cart.attached = true → s.cpu.nmiPending = true →
    ∃ u, Entered ((s.p ||| 0x20) &&& 0xEF) 0xFFFA (s.withCpu { s.cpu with nmiPending := false }) u ∧
      step s = .next (u.tick 7)

/-- An IRQ is taken where no NMI is pending and I is clear (R400, R710-R712, R720): the host's latch is cleared, and
an MMC3's request too where IRQ_AUTOACK_MAPPER is set; the handler at ($FFFE) is entered with B clear and U set in the
pushed P, and the 7 cycles are fanned out. The sources of the line and the acknowledge are the spec's decision D7 (log 6),
the fan-out its decision D10. -/
def Obligations.IrqIsTakenWhenNotMasked : Prop :=
  ∀ s : State, s.cpu.refused = false → s.cart.attached = true → s.cpu.nmiPending = false → s.cpu.flags.i = false →
    (s.apu.frameIrq = true ∨ (s.cart.mapperId = 4 ∧ s.cart.mmc3.irqPending = true) ∨ s.cpu.hostIrq = true) →
    ∃ u, Entered ((s.p ||| 0x20) &&& 0xEF) 0xFFFE
        { s with
          cpu := { s.cpu with hostIrq := false }
          cart := if s.settings.irqAutoackMapper = true ∧ s.cart.mapperId = 4 then
            { s.cart with mmc3 := { s.cart.mmc3 with irqPending := false } } else s.cart } u ∧
      step s = .next (u.tick 7)

/-- What stands before everything else, and what a masked IRQ does (R110, R400, R712, R715, R1003): a refused machine
and one without a cartridge have no step; with I set and no NMI the next step is an instruction, whatever the IRQ
line. One transfer a step is the spec's decision D9, the refused mark its decision D2; that a machine without a
cartridge has no step is the model's choice (log 2). -/
def Obligations.StepPriority : Prop :=
  ∀ s : State,
    (s.cpu.refused = true → step s = .refused .alreadyRefused) ∧
    (s.cpu.refused = false → s.cart.attached = false → step s = .refused .noCartridge) ∧
    (s.cpu.refused = false → s.cart.attached = true → s.cpu.nmiPending = false → s.cpu.flags.i = true →
      step s = s.cpuStep)

/-- Requests are not lost (R705, R711): no instruction and no tick clears a pending NMI, only taking it and reset do;
and a step that takes an IRQ does not acknowledge the frame counter's request, nor the mapper's where IRQ_AUTOACK_MAPPER
is not set (log 6). What clears a latch is the spec's decisions D7, D8 and D55 (log 6). -/
def Obligations.InterruptRequestsAreKept : Prop :=
  (∀ (i : Instr) (s t : State), exec i s = .next t → s.cpu.nmiPending = true → t.cpu.nmiPending = true) ∧
  (∀ (n : Nat) (s : State), s.cpu.nmiPending = true → (s.tick n).cpu.nmiPending = true) ∧
  (∀ s t : State, step s = .next t → s.irqLine = true → s.cpu.flags.i = false →
    (s.apu.frameIrq = true → t.apu.frameIrq = true) ∧
    (s.settings.irqAutoackMapper = false → s.cart.mmc3.irqPending = true → t.cart.mmc3.irqPending = true))

/-! ### What every step keeps -/

/-- Every step keeps the invariant: the memories in canonical form and in range, the PPU's place and slots, the APU's
ranges with a nonzero noise LFSR, and one APU cycle for every CPU cycle (R130, R152-R155, R227, R900). The ranges of
the APU counters are the spec's decisions D30, D31, D34 and D36; that the memories are canonical is the model's form. -/
def Obligations.StepKeepsInvariant : Prop :=
  ∀ s t : State, s.Inv → step s = .next t → t.Inv

/-- The state after reset satisfies the invariant. It is the state of the blank cartridge and the zero MEM_INIT, choices
of the model (logs 1 and 2). -/
def Obligations.ResetSatisfiesInvariant : Prop := State.reset.Inv

/-- No step changes PRG-ROM, CHR-ROM or the cartridge's header (R160, R211), nor the parameters it works under, which are
no state (R170, log 6). That a write to ROM has no effect is the spec's decision D15. -/
def Obligations.StepKeepsReadOnlyMemory : Prop :=
  ∀ s t : State, step s = .next t →
    t.cart.prgRom = s.cart.prgRom ∧ (s.cart.chrIsRam = false → t.cart.chr = s.cart.chr) ∧
    t.cart.prgBanks = s.cart.prgBanks ∧ t.cart.chrBanks = s.cart.chrBanks ∧ t.cart.chrIsRam = s.cart.chrIsRam ∧
    t.cart.mapperId = s.cart.mapperId ∧ t.cart.mirroring = s.cart.mirroring ∧ t.cart.battery = s.cart.battery ∧
    t.cart.attached = s.cart.attached ∧ t.settings = s.settings

/-- The clocks run in step (R9, R30, R400, R865): over any step the APU advances one cycle and the PPU three dots for
every CPU cycle counted, but for the dots skipped, at most one to each frame that ends. That entries and stalls are
fanned out too is the spec's decisions D10 to D12, the skipped dot its decision D25. -/
def Obligations.StepKeepsClockRatio : Prop :=
  ∀ s t : State, s.Inv → step s = .next t →
    s.cpu.cycles < t.cpu.cycles ∧
    t.apu.apuCycle - s.apu.apuCycle = t.cpu.cycles - s.cpu.cycles ∧
    ∃ skipped ≤ t.ppu.frame - s.ppu.frame,
      t.ppu.position = s.ppu.position + 3 * (t.cpu.cycles - s.cpu.cycles) + skipped

/-- What the fan-out leaves alone (R30, R404): no tick changes a CPU register, RAM, a controller, OAM, palette or
nametable RAM, PRG-RAM, CHR memory, a PPU register that only the CPU writes; it can raise the NMI latch, not clear it.
The order within a cycle is the spec's decision D47. -/
def Obligations.TickLeavesTheCpuAlone : Prop :=
  ∀ (n : Nat) (s : State), s.apu.Inv →
    (s.tick n).cpu = { s.cpu with nmiPending := (s.tick n).cpu.nmiPending } ∧
    (s.cpu.nmiPending = true → (s.tick n).cpu.nmiPending = true) ∧
    (s.tick n).bus = s.bus ∧
    (s.tick n).ppu.oam = s.ppu.oam ∧ (s.tick n).ppu.palette = s.ppu.palette ∧ (s.tick n).ppu.ntRam = s.ppu.ntRam ∧
    (s.tick n).ppu.ctrl = s.ppu.ctrl ∧ (s.tick n).ppu.mask = s.ppu.mask ∧ (s.tick n).ppu.oamAddr = s.ppu.oamAddr ∧
    (s.tick n).ppu.t = s.ppu.t ∧ (s.tick n).ppu.fineX = s.ppu.fineX ∧ (s.tick n).ppu.w = s.ppu.w ∧
    (s.tick n).ppu.readBuffer = s.ppu.readBuffer ∧
    (s.tick n).cart.prgRam = s.cart.prgRam ∧ (s.tick n).cart.chr = s.cart.chr ∧
    (s.tick n).cart.prgRom = s.cart.prgRom

/-! ### Reset -/

/-- Reset (R112, R121, R162, R299, R870, R980, R1000, R1001, R1003): every register, latch and device takes its reset
value, the refused mark is cleared, PC is read from ($FFFC), the memories keep their contents; then the seven cycles are
fanned out, which leaves the PPU at dot 21 with twenty pixels of backdrop composed and the APU seven cycles on (a field of
the APU or the MMC3 not listed is at the value of R156 or R162, its default); with no cartridge it is refused. The zeroes
D0 does not state are the spec's decision D39. What the memories keep is the spec's decision D38, the twenty pixels its
decisions D11 and D26. -/
def Obligations.ResetSetsTheMachine : Prop :=
  ∀ s : State,
    (s.cart.attached = false → s.hostReset = .refused .noCartridge) ∧
    (s.cart.attached = true → ∃ t, s.hostReset = .next t ∧
      t.cpu = { a := 0, x := 0, y := 0, sp := 0xFD, pc := wordOf (s.peek 0xFFFC) (s.peek 0xFFFD),
                flags := { c := false, z := false, i := true, d := false, v := false, n := false },
                cycles := 7, nmiPending := false, hostIrq := false, refused := false } ∧
      t.p = 0x24 ∧
      t.bus = { ram := s.bus.ram, input0 := 0, input1 := 0, shift0 := 0, shift1 := 0, strobe := false, openBus := 0xFF,
                dmaPage := 0, dmaPending := false, draws := s.bus.draws } ∧
      t.ppu = { scanline := 0, dot := 21, frame := 0, oddFrame := false, frameReady := false, ctrl := 0, mask := 0,
                vblank := false, spriteZeroHit := false, overflow := false, oamAddr := 0, v := 0, t := 0, fineX := 0,
                w := false, readBuffer := 0, ntRam := s.ppu.ntRam, palette := s.ppu.palette, oam := s.ppu.oam,
                oam2 := s.ppu.oam2, bgNt := 0, bgAt := 0, bgLo := 0, bgHi := 0, shLo := 0, shHi := 0, shAtLo := 0,
                shAtHi := 0, atLatchLo := false, atLatchHi := false, sprCount := 0,
                slots := List.replicate 8 { lo := 0, hi := 0, x := 0, attr := 0, idx := 0, addr := 0 },
                framebuffer := t.ppu.framebuffer } ∧
      (∀ y x, t.ppu.framebuffer.get y x = if y = 0 ∧ x < 20 then
        0xFF#8 ++ Config.ntscPalette ((s.ppu.palette.get 0).extractLsb' 0 6) else s.ppu.framebuffer.get y x) ∧
      t.apu = { p1 := { seq := 4 }, p2 := { seq := 4 }, tri := {}, noise := { lfsr := 0x2000 },
                dmc := { timer := 421, bitsLeft := 7 }, fcMode := false, fcInhibit := false, frameIrq := false,
                fcCycles := 7, fcStep := 0, apuCycle := 7, sampleAcc := 308700, samples := [] } ∧
      (s.cart.mapperId = 4 → t.cart = { s.cart with mmc3 := { mirroring := s.cart.mirroring } }) ∧
      (s.cart.mapperId ≠ 4 → t.cart = s.cart) ∧ t.settings = s.settings)

/-- Two resets in a row leave what one leaves, and after any reset S is $FD and the cycle counter 7 (R1002). -/
def Obligations.ResetIsIdempotent : Prop :=
  ∀ s t : State, s.hostReset = .next t →
    t.hostReset = .next t ∧ t.cpu.sp = 0xFD ∧ t.cpu.cycles = 7

/-! ### Memory -/

/-- The four RAM pages name the same bytes (R202): what is written at `a` is read at `a` and its three mirrors, and every
other RAM byte reads as before. -/
def Obligations.RamIsMirroredFourTimes : Prop :=
  ∀ (s : State) (a : Word) (v : Byte), a.toNat < 0x2000 →
    (∀ m ∈ [(0 : Word), 0x0800, 0x1000, 0x1800],
      (a ^^^ m).toNat < 0x2000 ∧ ((s.write a v).read (a ^^^ m)).1 = v) ∧
    (∀ b : Word, b.toNat < 0x2000 → b ≠ a → b ≠ a ^^^ 0x0800 → b ≠ a ^^^ 0x1000 → b ≠ a ^^^ 0x1800 →
      ((s.write a v).read b).1 = (s.read b).1)

/-- Only the low three bits of an address in $2000-$3FFF choose the PPU register (R203). -/
def Obligations.PpuRegistersAreMirrored : Prop :=
  ∀ (s : State) (a b : Word) (v : Byte), 0x2000 ≤ a.toNat → a.toNat < 0x4000 → 0x2000 ≤ b.toNat → b.toNat < 0x4000 →
    a.toNat % 8 = b.toNat % 8 → s.read a = s.read b ∧ s.write a v = s.write b v

/-- RAM, PRG-RAM and PRG-ROM read without effect; RAM and PRG-RAM give back the last byte written; an NROM cartridge
drops writes to PRG-ROM, and a single 16 KiB bank fills the upper half of the address space twice (R211, R227, R270,
R271). That a write to PRG-ROM is dropped is the spec's decision D15; a mapper other than 4 counts as NROM (log 12). -/
def Obligations.PlainMemoryReadsBack : Prop :=
  ∀ (s : State) (a : Word) (v : Byte),
    (plainAddress a = true → s.read a = (s.peek a, s)) ∧
    (a.toNat < 0x2000 ∨ (0x6000 ≤ a.toNat ∧ a.toNat < 0x8000) → ((s.write a v).read a).1 = v) ∧
    (0x8000 ≤ a.toNat → s.cart.mapperId ≠ 4 → s.write a v = s ∧
      (s.read a).1 = s.cart.prgRom.get ((a.toNat - 0x8000) % (s.cart.prgBanks * 16384))) ∧
    (0x8000 ≤ a.toNat → s.cart.mapperId ≠ 4 → s.cart.prgBanks = 1 → (s.read a).1 = (s.read (a ^^^ 0x4000)).1)

/-- The PPU's nametable and palette maps (R252, R253): a write is seen at exactly the addresses that name the same
byte, by the cartridge's mirroring for the nametables and by the four mirrored entries for the palette. The nametable
map is a passage the spec marks as general knowledge (R252), the palette's size an inference of its own (R253). -/
def Obligations.PpuMemoryMirrors : Prop :=
  ∀ (p : Video) (a b : PpuAddr) (v : Byte),
    (0x2000 ≤ a.toNat → a.toNat < 0x3F00 → 0x2000 ≤ b.toNat → b.toNat < 0x3F00 →
      let bank (n : Nat) : Nat := match p.cart.nametableMirroring with
        | .horizontal => n / 0x800 % 2
        | .vertical => n / 0x400 % 2
      (p.write a v).peek b = if bank a.toNat = bank b.toNat ∧ a.toNat % 0x400 = b.toNat % 0x400 then v else p.peek b) ∧
    (0x3F00 ≤ a.toNat → 0x3F00 ≤ b.toNat →
      let entry (n : Nat) : Nat := if n % 4 = 0 then n % 16 else n % 32
      (p.write a v).peek b = if entry a.toNat = entry b.toNat then v else p.peek b)

/-! ### PPU registers -/

/-- STATUS, OAMADDR, OAMDATA, MASK and the write-only registers (R783-R785, R787-R789, R795), at every mirror. The
STATUS write and the read of a write-only register are the spec's decisions D15 and D14; the value read is free (log
3). -/
def Obligations.StatusAndOamPorts : Prop :=
  ∀ (s : State) (a : Word) (v : Byte), 0x2000 ≤ a.toNat → a.toNat < 0x4000 →
    (a.toNat % 8 = 2 →
      (s.read a).1.getLsbD 7 = s.ppu.vblank ∧ (s.read a).1.getLsbD 6 = s.ppu.spriteZeroHit ∧
      (s.read a).1.getLsbD 5 = s.ppu.overflow ∧ (∀ i < 5, (s.read a).1.getLsbD i = s.ppu.readBuffer.getLsbD i) ∧
      (s.read a).2 = { s with ppu := { s.ppu with vblank := false, w := false } } ∧ s.write a v = s) ∧
    (a.toNat % 8 = 4 →
      s.read a = (s.ppu.oam.get s.ppu.oamAddr.toNat, s) ∧
      ∃ m, s.write a v = { s with ppu := { s.ppu with oam := m, oamAddr := s.ppu.oamAddr + 1 } } ∧
        ∀ j, m.get j = if j = s.ppu.oamAddr.toNat then v else s.ppu.oam.get j) ∧
    (a.toNat % 8 ∈ [0, 1, 3, 5, 6] → ∃ r, s.read a = (r, { s with bus := { s.bus with draws := s.bus.draws + 1 } })) ∧
    (a.toNat % 8 = 1 → s.write a v = { s with ppu := { s.ppu with mask := v } }) ∧
    (a.toNat % 8 = 3 → s.write a v = { s with ppu := { s.ppu with oamAddr := v } })

/-- CTRL (R782): the byte is stored, bits 1:0 go to bits 11:10 of `t`, and the NMI latch is raised when bit 7 becomes 1
while the VBlank flag is set; a latch already raised stays. -/
def Obligations.CtrlWriteRaisesNmi : Prop :=
  ∀ (s : State) (a : Word) (v : Byte), 0x2000 ≤ a.toNat → a.toNat < 0x4000 → a.toNat % 8 = 0 →
    ∃ t : Loopy, t.extractLsb' 10 2 = v.extractLsb' 0 2 ∧ t.extractLsb' 0 10 = s.ppu.t.extractLsb' 0 10 ∧
      t.extractLsb' 12 3 = s.ppu.t.extractLsb' 12 3 ∧
      s.write a v = { s with
        ppu := { s.ppu with ctrl := v, t := t }
        cpu := { s.cpu with
          nmiPending := s.cpu.nmiPending || (!s.ppu.ctrl.msb && v.msb && s.ppu.vblank) } }

/-- SCROLL and ADDR share the write toggle (R790, R793, R796): what each of the two writes of each puts into `t`, `v` and
fine X, field by field; nothing else changes. -/
def Obligations.ScrollAndAddrShareTheToggle : Prop :=
  ∀ (s : State) (a : Word) (x : Byte), 0x2000 ≤ a.toNat → a.toNat < 0x4000 →
    (a.toNat % 8 = 5 → s.ppu.w = false → ∃ t : Loopy,
      t.extractLsb' 0 5 = x.extractLsb' 3 5 ∧ t.extractLsb' 5 10 = s.ppu.t.extractLsb' 5 10 ∧
      s.write a x = { s with ppu := { s.ppu with t := t, fineX := x.extractLsb' 0 3, w := true } }) ∧
    (a.toNat % 8 = 5 → s.ppu.w = true → ∃ t : Loopy,
      t.extractLsb' 5 5 = x.extractLsb' 3 5 ∧ t.extractLsb' 12 3 = x.extractLsb' 0 3 ∧
      t.extractLsb' 0 5 = s.ppu.t.extractLsb' 0 5 ∧ t.extractLsb' 10 2 = s.ppu.t.extractLsb' 10 2 ∧
      s.write a x = { s with ppu := { s.ppu with t := t, w := false } }) ∧
    (a.toNat % 8 = 6 → s.ppu.w = false → ∃ t : Loopy,
      t.extractLsb' 8 6 = x.extractLsb' 0 6 ∧ t.msb = false ∧ t.extractLsb' 0 8 = s.ppu.t.extractLsb' 0 8 ∧
      s.write a x = { s with ppu := { s.ppu with t := t, w := true } }) ∧
    (a.toNat % 8 = 6 → s.ppu.w = true → ∃ t : Loopy,
      t.extractLsb' 0 8 = x ∧ t.extractLsb' 8 7 = s.ppu.t.extractLsb' 8 7 ∧
      s.write a x = { s with ppu := { s.ppu with t := t, v := t, w := false } })

/-- DATA (R791, R792, R794): a read below $3F00 returns the buffer and refills it, a palette read returns the palette
byte and refills the buffer from the nametable byte underneath; a write stores at `v`, but for CHR-ROM, and every address
of the PPU's space that does not name that byte reads as before; each adds 1 or 32 to `v`, modulo 2^15, and changes
nothing else of the PPU but the memory written, and of the cartridge nothing but CHR-RAM and what an MMC3's A12 watch
counts (R262). The refill under the palette is the spec's decision D16, the plain step during rendering its decision
D45. -/
def Obligations.DataPortIsBuffered : Prop :=
  ∀ (s : State) (a : Word) (x : Byte), 0x2000 ≤ a.toNat → a.toNat < 0x4000 → a.toNat % 8 = 7 →
    let p : Video := ⟨s.ppu, s.cart, s.settings⟩
    let low : PpuAddr := s.ppu.v.extractLsb' 0 14
    let v' : Loopy := BitVec.ofNat 15 (s.ppu.v.toNat + (if s.ppu.ctrl.getLsbD 2 = true then 32 else 1))
    let t := s.write a x
    (low.toNat < 0x3F00 → (s.read a).1 = s.ppu.readBuffer ∧
      (s.read a).2.ppu = { s.ppu with readBuffer := p.peek low, v := v' }) ∧
    (0x3F00 ≤ low.toNat → (s.read a).1 = p.peek low ∧
      (s.read a).2.ppu = { s.ppu with readBuffer := p.peek (low - 0x1000), v := v' }) ∧
    t.ppu = { s.ppu with ntRam := t.ppu.ntRam, palette := t.ppu.palette, v := v' } ∧
    (∀ b : PpuAddr, sameVideoByte s.cart low b → Video.peek ⟨t.ppu, t.cart, t.settings⟩ b =
      (if low.toNat < 0x2000 ∧ s.cart.chrIsRam = false then p.peek b else x)) ∧
    (∀ b : PpuAddr, ¬ sameVideoByte s.cart low b → Video.peek ⟨t.ppu, t.cart, t.settings⟩ b = p.peek b) ∧
    (∀ j, ¬ (low.toNat < 0x2000 ∧ s.cart.chrIsRam = true ∧ j = s.cart.chrIndex low) →
      t.cart.chr.get j = s.cart.chr.get j) ∧
    (∀ j, ¬ (0x2000 ≤ low.toNat ∧ low.toNat < 0x3F00 ∧ j = nametableIndex s.cart.nametableMirroring low) →
      t.ppu.ntRam.get j = s.ppu.ntRam.get j) ∧
    (∀ j, ¬ (0x3F00 ≤ low.toNat ∧ j = paletteIndex low) → t.ppu.palette.get j = s.ppu.palette.get j) ∧
    t.cart = { s.cart with
      chr := t.cart.chr
      mmc3 := { s.cart.mmc3 with
        irqCounter := t.cart.mmc3.irqCounter, irqReload := t.cart.mmc3.irqReload
        irqPending := t.cart.mmc3.irqPending, a12Prev := t.cart.mmc3.a12Prev
        a12LowSince := t.cart.mmc3.a12LowSince } } ∧
    t.cpu = s.cpu ∧ t.bus = s.bus ∧ t.apu = s.apu ∧ t.settings = s.settings

/-! ### Controllers and OAM-DMA -/

/-- The controllers (R242): with the strobe set a read returns bit 0 of the input latch and shifts nothing; with it clear,
the shift register's bit 0, shifting right and filling with ones; bit 6 is set in every byte returned; after eight reads
every further one returns 1 in the low bit. -/
def Obligations.ControllersShift : Prop :=
  ∀ s : State,
    (s.bus.strobe = true →
      s.read 0x4016 = ((if s.bus.input0.getLsbD 0 = true then 0x41 else 0x40), s) ∧
      s.read 0x4017 = ((if s.bus.input1.getLsbD 0 = true then 0x41 else 0x40), s)) ∧
    (s.bus.strobe = false →
      s.read 0x4016 = ((if s.bus.shift0.getLsbD 0 = true then 0x41 else 0x40),
        { s with bus := { s.bus with shift0 := s.bus.shift0 >>> 1 ||| 0x80 } }) ∧
      s.read 0x4017 = ((if s.bus.shift1.getLsbD 0 = true then 0x41 else 0x40),
        { s with bus := { s.bus with shift1 := s.bus.shift1 >>> 1 ||| 0x80 } }) ∧
      ∀ n : Nat,
        (((fun u : State => (u.read 0x4016).2)^[n] s).read 0x4016).1 =
          (if s.bus.shift0.getLsbD n = true ∨ 8 ≤ n then 0x41 else 0x40) ∧
        (((fun u : State => (u.read 0x4017).2)^[n] s).read 0x4017).1 =
          (if s.bus.shift1.getLsbD n = true ∨ 8 ≤ n then 0x41 else 0x40))

/-- OAM-DMA (R230-R232, R236): a write of $4014 only records page and request; the copy, from a page of plain memory,
puts its 256 bytes into OAM from the current OAM address on, which comes back to its value, counts 513 cycles, or 514
where DMA_ODD_EXTRA is set (log 6) and it begins on an odd one, and leaves RAM and the cartridge's memories alone. That all
copies come before the stall's dots is the spec's decision D12. -/
def Obligations.OamDmaCopiesAPage : Prop :=
  ∀ s : State,
    (∀ v, s.write 0x4014 v = { s with bus := { s.bus with dmaPage := v, dmaPending := true } }) ∧
    (s.bus.dmaPage.toNat < 0x20 ∨ 0x60 ≤ s.bus.dmaPage.toNat →
      (∀ i : Byte, s.oamDma.ppu.oam.get (s.ppu.oamAddr + i).toNat = s.peek (wordOf i s.bus.dmaPage)) ∧
      s.oamDma.ppu.oamAddr = s.ppu.oamAddr ∧ s.oamDma.bus.dmaPending = false ∧
      s.oamDma.cpu.cycles = s.cpu.cycles + 513 +
        (if s.settings.dmaOddExtra = true then s.cpu.cycles % 2 else 0) ∧
      s.oamDma.bus.ram = s.bus.ram ∧ s.oamDma.ppu.ntRam = s.ppu.ntRam ∧ s.oamDma.ppu.palette = s.ppu.palette ∧
      s.oamDma.cart.prgRam = s.cart.prgRam ∧ s.oamDma.cart.prgRom = s.cart.prgRom ∧
      s.oamDma.cart.chr = s.cart.chr)

/-! ### Video -/

/-- VBlank (R860, R861): the dot (241, 1) sets the VBlank flag and raises the NMI latch when NMI output is enabled, whatever
the rendering enables; the dot (261, 1) clears VBlank, sprite-0 hit and overflow; no other dot changes the VBlank flag
or the latch. -/
def Obligations.VBlankStartsAndEnds : Prop :=
  ∀ s : State,
    (s.ppu.scanline = 241 → s.ppu.dot = 1 →
      s.ppuTick.ppu.vblank = true ∧ s.ppuTick.cpu.nmiPending = (s.cpu.nmiPending || s.ppu.ctrl.msb)) ∧
    (s.ppu.scanline = 261 → s.ppu.dot = 1 →
      s.ppuTick.ppu.vblank = false ∧ s.ppuTick.ppu.spriteZeroHit = false ∧ s.ppuTick.ppu.overflow = false) ∧
    (¬ (s.ppu.scanline = 241 ∧ s.ppu.dot = 1) → s.ppuTick.cpu = s.cpu ∧
      (¬ (s.ppu.scanline = 261 ∧ s.ppu.dot = 1) → s.ppuTick.ppu.vblank = s.ppu.vblank))

/-- The frame (R751, R865): 262 lines of 341 dots, gone through in order; a frame that ends is counted and announced and
flips the odd-frame flag; one dot is skipped on the pre-render line of an odd frame with rendering enabled (at dot 339,
the spec's decision D25); the lines 240 to 260 touch no memory and compose no pixel. -/
def Obligations.FrameGeometry : Prop :=
  ∀ s : State, s.ppu.Inv →
    let p := s.ppu
    let q := s.ppuTick.ppu
    let skip := p.scanline = 261 ∧ p.dot = 339 ∧ p.oddFrame = true ∧ p.renderingEnabled = true
    (q.scanline ≤ 261 ∧ q.dot ≤ 340) ∧
    (skip → q.scanline = 0 ∧ q.dot = 0 ∧ q.frame = p.frame + 1) ∧
    (¬ skip → q.position = p.position + 1) ∧
    (q.frame ≠ p.frame → q.frame = p.frame + 1 ∧ q.frameReady = true ∧ q.oddFrame = !p.oddFrame) ∧
    (q.frame = p.frame → q.frameReady = p.frameReady ∧ q.oddFrame = p.oddFrame) ∧
    (240 ≤ p.scanline → p.scanline ≤ 260 → s.ppuTick.cart = s.cart ∧ q.framebuffer = p.framebuffer ∧
      q.ntRam = p.ntRam ∧ q.palette = p.palette ∧ q.oam = p.oam ∧ q.oam2 = p.oam2)

/-- Sprite evaluation (R821): of the OAM entries whose rows cover the line, in OAM order, the first eight fill the
slots with their index, attribute and X; a ninth sets the overflow flag, which is not cleared; nothing else is
evaluated. The pattern address of a slot (R822) is not stated here. -/
def Obligations.SpriteEvaluation : Prop :=
  ∀ (p : Ppu) (line : Nat), p.slots.length = 8 →
    let h := if p.ctrl.getLsbD 5 = true then 16 else 8
    let found := (List.range 64).filter fun i =>
      decide ((p.oam.get (4 * i)).toNat ≤ line ∧ line - (p.oam.get (4 * i)).toNat < h)
    let q := p.evaluateSprites line
    q.sprCount = min 8 found.length ∧
    q.overflow = (p.overflow || decide (9 ≤ found.length)) ∧
    (∀ k i, k < 8 → found[k]? = some i → ∃ s, q.slots[k]? = some s ∧
      s.idx.toNat = i ∧ s.attr = p.oam.get (4 * i + 2) ∧ s.x = p.oam.get (4 * i + 3)) ∧
    (∀ k i j, k < 8 → j < 4 → found[k]? = some i → q.oam2.get (4 * k + j) = p.oam.get (4 * i + j)) ∧
    (∀ j, 4 * found.length ≤ j → j < 32 → q.oam2.get j = 0xFF) ∧
    q.oam = p.oam

/-! ### Sound and the mapper -/

/-- $4015 (R955, R960): a read returns the length and byte-count bits and the frame IRQ and clears the frame IRQ only;
a write enables or disables each channel and zeroes the length of every channel it disables. The bit positions are a
passage the spec marks as general knowledge, the DMC restart and the zero bits its decisions D32 and D35. -/
def Obligations.ApuStatusAndEnables : Prop :=
  ∀ (s : State) (v : Byte),
    let u := s.apu
    let w := (s.write 0x4015 v).apu
    (∀ i, (s.read 0x4015).1.getLsbD i =
      match i with
      | 0 => u.p1.length != 0
      | 1 => u.p2.length != 0
      | 2 => u.tri.length != 0
      | 3 => u.noise.length != 0
      | 4 => u.dmc.bytesLeft != 0
      | 6 => u.frameIrq
      | _ => false) ∧
    (s.read 0x4015).2 = { s with apu := { u with frameIrq := false } } ∧
    (w.p1.enabled = v.getLsbD 0 ∧ w.p2.enabled = v.getLsbD 1 ∧ w.tri.enabled = v.getLsbD 2 ∧
      w.noise.enabled = v.getLsbD 3 ∧ w.dmc.enabled = v.getLsbD 4) ∧
    (w.p1.length = (if v.getLsbD 0 = true then u.p1.length else 0) ∧
      w.p2.length = (if v.getLsbD 1 = true then u.p2.length else 0) ∧
      w.tri.length = (if v.getLsbD 2 = true then u.tri.length else 0) ∧
      w.noise.length = (if v.getLsbD 3 = true then u.noise.length else 0)) ∧
    (v.getLsbD 4 = false → w.dmc.bytesLeft = 0) ∧
    (v.getLsbD 4 = true → u.dmc.bytesLeft ≠ 0 → w.dmc.bytesLeft = u.dmc.bytesLeft ∧ w.dmc.curAddr = u.dmc.curAddr) ∧
    (v.getLsbD 4 = true → u.dmc.bytesLeft = 0 →
      w.dmc.bytesLeft.toNat = 16 * u.dmc.sampleLenReg.toNat + 1 ∧
      w.dmc.curAddr.toNat = 0xC000 + 64 * u.dmc.sampleAddrReg.toNat) ∧
    w.frameIrq = u.frameIrq

/-- The MMC3 (R285, R286, R298): the last 8 KiB bank stays at $E000 whatever the registers hold, the last but one at
$8000 or $C000 by the mode bit; a clock of the interrupt counter reloads it from the latch at zero or on request, else
decrements it, and raises the line when it is then zero and enabled; a write to an even address from $E000 on disables
and acknowledges, one to an odd address there enables. The register addresses are a passage the spec marks as general knowledge (R285). -/
def Obligations.Mmc3BanksAndIrq : Prop :=
  ∀ (c : Cart) (a : Word) (v : Byte), c.mapperId = 4 → 1 ≤ c.prgBanks →
    (0xE000 ≤ a.toNat →
      c.cpuRead a = some (c.prgRom.get (c.prgBanks * 16384 - 0x2000 + (a.toNat - 0xE000)))) ∧
    (c.mmc3.prgMode = false → 0xC000 ≤ a.toNat → a.toNat < 0xE000 →
      c.cpuRead a = some (c.prgRom.get (c.prgBanks * 16384 - 0x4000 + (a.toNat - 0xC000)))) ∧
    (c.mmc3.prgMode = true → 0x8000 ≤ a.toNat → a.toNat < 0xA000 →
      c.cpuRead a = some (c.prgRom.get (c.prgBanks * 16384 - 0x4000 + (a.toNat - 0x8000)))) ∧
    (let m := c.mmc3
     let n := m.clockIrqCounter
     n.irqCounter = (if m.irqCounter = 0 ∨ m.irqReload = true then m.irqLatch else m.irqCounter - 1) ∧
     n.irqReload = false ∧
     (n.irqPending = true ↔ m.irqPending = true ∨ (n.irqCounter = 0 ∧ m.irqEnable = true))) ∧
    (0xE000 ≤ a.toNat → (c.cpuWrite a v).irqQuery = (if a.toNat % 2 = 0 then false else c.irqQuery) ∧
      (c.cpuWrite a v).mmc3.irqEnable = decide (a.toNat % 2 = 1)) ∧
    (c.cpuWrite a v).prgRom = c.prgRom
end

