-- ==== Sys2Proof/Laws/Memory.lean ====
section
/-! SUPPORT. The laws of the memories: a read after a write, and the canonical form. -/

namespace Sys2Proof.Machine

theorem assocGet_assocPut_self {α : Type} (k : Nat) (v : α) (m : List (Nat × α)) :
    assocGet k (assocPut k v m) = some v := by
  induction m with
  | nil => simp [assocPut, assocGet]
  | cons c m ih =>
    obtain ⟨j, w⟩ := c
    simp only [assocPut]
    split
    · simp [assocGet]
    · split
      · simp [assocGet]
      · simp [assocGet, *]

theorem assocGet_assocPut_ne {α : Type} {k b : Nat} (h : b ≠ k) (v : α) (m : List (Nat × α)) :
    assocGet b (assocPut k v m) = assocGet b m := by
  induction m with
  | nil => simp [assocPut, assocGet, h]
  | cons c m ih =>
    obtain ⟨j, w⟩ := c
    simp only [assocPut]
    split
    · simp [assocGet, h]
    · split
      · simp_all [assocGet]
      · simp [assocGet, ih]

theorem assocGet_filter_ne {α : Type} {k b : Nat} (h : b ≠ k) (m : List (Nat × α)) :
    assocGet b (m.filter (fun c => c.1 ≠ k)) = assocGet b m := by
  induction m with
  | nil => rfl
  | cons c m ih =>
    obtain ⟨j, w⟩ := c
    by_cases hj : j = k
    · subst hj; simp [assocGet, h] at ih ⊢; exact ih
    · simp [assocGet, hj] at ih ⊢; rw [ih]

theorem assocGet_filter_self {α : Type} (k : Nat) (m : List (Nat × α)) :
    assocGet k (m.filter (fun c => c.1 ≠ k)) = none := by
  induction m with
  | nil => rfl
  | cons c m ih =>
    obtain ⟨j, w⟩ := c
    by_cases hj : j = k
    · simp [hj] at ih ⊢; exact ih
    · simp [assocGet, hj, Ne.symm hj] at ih ⊢; exact ih

/-- A read after a write to the same index gives the value written. -/
@[simp] theorem Memory.get_set_self (m : Memory) (a : Nat) (v : Byte) : (m.set a v).get a = v := by
  unfold Memory.get Memory.set
  split
  · rw [assocGet_filter_self]; simp_all
  · rw [assocGet_assocPut_self]; rfl

/-- A write leaves every other index alone. -/
theorem Memory.get_set_ne (m : Memory) {a b : Nat} (h : b ≠ a) (v : Byte) : (m.set a v).get b = m.get b := by
  unfold Memory.get Memory.set
  split
  · rw [assocGet_filter_ne h]
  · rw [assocGet_assocPut_ne h]

theorem Memory.get_set (m : Memory) (a b : Nat) (v : Byte) :
    (m.set a v).get b = if b = a then v else m.get b := by
  split
  · subst b; exact Memory.get_set_self ..
  · exact Memory.get_set_ne _ ‹_› _

theorem mem_assocPut {α : Type} {k : Nat} {v : α} {m : List (Nat × α)} {c : Nat × α}
    (h : c ∈ assocPut k v m) : c = (k, v) ∨ c ∈ m := by
  induction m with
  | nil => simpa [assocPut] using h
  | cons d m ih =>
    obtain ⟨j, w⟩ := d
    simp only [assocPut] at h
    split at h
    · simpa using h
    · split at h
      · rcases List.mem_cons.1 h with h | h
        · exact .inl h
        · exact .inr (by simp [h])
      · rcases List.mem_cons.1 h with h | h
        · exact .inr (by simp [h])
        · rcases ih h with h | h
          · exact .inl h
          · exact .inr (by simp [h])

theorem pairwise_assocPut {α : Type} (k : Nat) (v : α) {m : List (Nat × α)}
    (h : m.Pairwise (fun c d => c.1 < d.1)) : (assocPut k v m).Pairwise (fun c d => c.1 < d.1) := by
  induction m with
  | nil => simp [assocPut]
  | cons d m ih =>
    obtain ⟨j, w⟩ := d
    have hm := List.pairwise_cons.1 h
    simp only [assocPut]
    split
    · refine List.pairwise_cons.2 ⟨fun c hc => ?_, h⟩
      rcases List.mem_cons.1 hc with hc | hc
      · subst hc; assumption
      · have := hm.1 c hc; simp only at this ⊢; omega
    · split
      · subst k; exact List.pairwise_cons.2 ⟨hm.1, hm.2⟩
      · refine List.pairwise_cons.2 ⟨fun c hc => ?_, ih hm.2⟩
        rcases mem_assocPut hc with hc | hc
        · subst hc; simp only; omega
        · exact hm.1 c hc

/-- Writing keeps the canonical form. -/
theorem Memory.wf_set {m : Memory} (h : m.wf) (a : Nat) (v : Byte) : (m.set a v).wf := by
  unfold Memory.set
  split
  · exact ⟨h.1.filter _, fun c hc => h.2 c (List.mem_of_mem_filter hc)⟩
  · refine ⟨pairwise_assocPut a v h.1, fun c hc => ?_⟩
    rcases mem_assocPut hc with hc | hc
    · subst hc; assumption
    · exact h.2 c hc

/-- Writing inside a memory's size keeps every listed index inside it. -/
theorem Memory.below_set {m : Memory} {size a : Nat} (h : m.below size) (ha : a < size) (v : Byte) :
    (m.set a v).below size := by
  unfold Memory.set
  split
  · exact fun c hc => h c (List.mem_of_mem_filter hc)
  · intro c hc
    rcases mem_assocPut hc with hc | hc
    · subst hc; exact ha
    · exact h c hc

theorem Memory.le_of_mem_ofBytes {bs : List Byte} {start : Nat} {c : Host.Cell}
    (h : c ∈ Memory.ofBytes start bs) : start ≤ c.1 ∧ c.1 < start + bs.length ∧ c.2 ≠ Memory.unlisted := by
  induction bs generalizing start with
  | nil => simp [Memory.ofBytes] at h
  | cons b bs ih =>
    simp only [Memory.ofBytes] at h
    split at h
    · obtain ⟨h1, h2, h3⟩ := ih h
      exact ⟨by omega, by simp only [List.length_cons]; omega, h3⟩
    · rcases List.mem_cons.1 h with h | h
      · subst h; simp_all
      · obtain ⟨h1, h2, h3⟩ := ih h
        exact ⟨by omega, by simp only [List.length_cons]; omega, h3⟩

/-- A memory laid out from bytes is in canonical form. -/
theorem Memory.wf_ofBytes (start : Nat) (bs : List Byte) : (Memory.ofBytes start bs).wf := by
  refine ⟨?_, fun c hc => (Memory.le_of_mem_ofBytes hc).2.2⟩
  induction bs generalizing start with
  | nil => exact List.Pairwise.nil
  | cons b bs ih =>
    simp only [Memory.ofBytes]
    split
    · exact ih _
    · exact List.pairwise_cons.2 ⟨fun c hc => (Memory.le_of_mem_ofBytes hc).1, ih _⟩

/-- A memory laid out from index 0 lists only indexes below the number of bytes. -/
theorem Memory.below_ofBytes (bs : List Byte) {size : Nat} (h : bs.length ≤ size) :
    (Memory.ofBytes 0 bs).below size := by
  intro c hc
  have := Memory.le_of_mem_ofBytes hc
  omega

/-- Equal reads of canonical memories mean equal memories. -/
theorem Memory.mem_iff_get {m : Memory} (h : m.wf) {a : Nat} {v : Byte} (hv : v ≠ Memory.unlisted) :
    (a, v) ∈ m ↔ m.get a = v := by
  obtain ⟨hp, hn⟩ := h
  unfold Memory.get
  induction m with
  | nil => simp [assocGet]; exact fun h => hv h.symm
  | cons c m ih =>
    obtain ⟨j, w⟩ := c
    have hp' := List.pairwise_cons.1 hp
    have ih' := ih hp'.2 (fun c hc => hn c (by simp [hc]))
    by_cases hj : a = j
    · subst hj
      have : (a, v) ∉ m := fun hm => absurd (hp'.1 _ hm) (by simp)
      simp [assocGet, this, eq_comm]
    · simp [assocGet, hj, ih']

/-- The pixel just stored reads back. -/
@[simp] theorem Framebuffer.get_set_self (f : Framebuffer) (y x : Nat) (p : BitVec 32) :
    (f.set y x p).get y x = p := by
  simp [Framebuffer.get, Framebuffer.set, assocGet_assocPut_self]

/-- Storing a pixel leaves every other pixel alone. -/
theorem Framebuffer.get_set_ne (f : Framebuffer) {y x y' x' : Nat} (h : (y', x') ≠ (y, x)) (p : BitVec 32) :
    (f.set y x p).get y' x' = f.get y' x' := by
  unfold Framebuffer.get Framebuffer.set
  by_cases hy : y' = y
  · subst hy
    have hx : x' ≠ x := fun e => h (by rw [e])
    simp [assocGet_assocPut_self, assocGet_assocPut_ne hx]
  · simp [assocGet_assocPut_ne hy]

/-! ### Putting again what was put -/

/-- A later put under the same key is what counts. -/
theorem assocPut_assocPut_self {α : Type} (k : Nat) (v w : α) (m : List (Nat × α)) :
    assocPut k v (assocPut k w m) = assocPut k v m := by
  induction m with
  | nil => simp [assocPut]
  | cons c m ih =>
    obtain ⟨j, x⟩ := c
    simp only [assocPut]
    by_cases h : k < j
    · simp [h, assocPut]
    · by_cases h' : k = j
      · simp [h', assocPut]
      · simp [h, h', assocPut, ih]

/-- A put that would change nothing still changes nothing after a put under a greater key. -/
theorem assocPut_settled {α : Type} {k k' : Nat} {v w : α} {m : List (Nat × α)} (hk : k < k')
    (h : assocPut k v m = m) : assocPut k v (assocPut k' w m) = assocPut k' w m := by
  induction m with
  | nil => simp [assocPut] at h
  | cons c m ih =>
    obtain ⟨j, x⟩ := c
    simp only [assocPut] at h ⊢
    by_cases h1 : k < j
    · rw [if_pos h1] at h
      have := congrArg List.length h
      simp at this
    · rw [if_neg h1] at h
      by_cases h2 : k = j
      · subst h2
        rw [if_pos rfl] at h
        simp only [List.cons.injEq, Prod.mk.injEq, true_and, and_true] at h
        rw [if_neg (by omega), if_neg (by omega), h]
        simp [assocPut]
      · rw [if_neg h2] at h
        have ht := (List.cons.inj h).2
        by_cases h3 : k' < j
        · omega
        · rw [if_neg h3]
          by_cases h4 : k' = j
          · subst h4
            rw [if_pos rfl]
            simp only [assocPut, if_neg h1, if_neg h2, ht]
          · rw [if_neg h4]
            simp only [assocPut, if_neg h1, if_neg h2, ih ht]

/-- Puts of one value under rising keys are settled under each of them. -/
theorem foldl_assocPut_settled {α : Type} {k : Nat} {v : α} (ks : List Nat) (h : ∀ j ∈ ks, k < j)
    {m : List (Nat × α)} (hm : assocPut k v m = m) :
    assocPut k v (ks.foldl (fun n j => assocPut j v n) m) = ks.foldl (fun n j => assocPut j v n) m := by
  induction ks generalizing m with
  | nil => exact hm
  | cons j ks ih =>
    exact ih (fun i hi => h i (List.mem_cons_of_mem _ hi)) (assocPut_settled (h j List.mem_cons_self) hm)

/-- Putting one value under rising keys twice is putting it once. -/
theorem foldl_assocPut_idem {α : Type} (v : α) (ks : List Nat) (h : ks.Pairwise (· < ·)) (m : List (Nat × α)) :
    ks.foldl (fun n j => assocPut j v n) (ks.foldl (fun n j => assocPut j v n) m) =
      ks.foldl (fun n j => assocPut j v n) m := by
  induction ks generalizing m with
  | nil => rfl
  | cons j ks ih =>
    obtain ⟨h1, h2⟩ := List.pairwise_cons.1 h
    simp only [List.foldl_cons]
    rw [foldl_assocPut_settled ks h1 (assocPut_assocPut_self j v v m), ih h2]

end Sys2Proof.Machine
end

