-- ==== Sys2Proof/Laws/State.lean ====
section
/-! SUPPORT. One lemma per field per update of the state, each true by unfolding the update. -/

namespace Sys2Proof.Machine

@[simp] theorem State.setA_a (s : State) (v : Byte) : (s.setA v).cpu.a = v := rfl
@[simp] theorem State.setA_x (s : State) (v : Byte) : (s.setA v).cpu.x = s.cpu.x := rfl
@[simp] theorem State.setA_y (s : State) (v : Byte) : (s.setA v).cpu.y = s.cpu.y := rfl
@[simp] theorem State.setA_sp (s : State) (v : Byte) : (s.setA v).cpu.sp = s.cpu.sp := rfl
@[simp] theorem State.setA_pc (s : State) (v : Byte) : (s.setA v).cpu.pc = s.cpu.pc := rfl
@[simp] theorem State.setA_flags (s : State) (v : Byte) : (s.setA v).cpu.flags = s.cpu.flags := rfl
@[simp] theorem State.setA_cycles (s : State) (v : Byte) : (s.setA v).cpu.cycles = s.cpu.cycles := rfl
@[simp] theorem State.setA_nmiPending (s : State) (v : Byte) : (s.setA v).cpu.nmiPending = s.cpu.nmiPending := rfl
@[simp] theorem State.setA_hostIrq (s : State) (v : Byte) : (s.setA v).cpu.hostIrq = s.cpu.hostIrq := rfl
@[simp] theorem State.setA_refused (s : State) (v : Byte) : (s.setA v).cpu.refused = s.cpu.refused := rfl
@[simp] theorem State.setA_bus (s : State) (v : Byte) : (s.setA v).bus = s.bus := rfl
@[simp] theorem State.setA_ppu (s : State) (v : Byte) : (s.setA v).ppu = s.ppu := rfl
@[simp] theorem State.setA_apu (s : State) (v : Byte) : (s.setA v).apu = s.apu := rfl
@[simp] theorem State.setA_cart (s : State) (v : Byte) : (s.setA v).cart = s.cart := rfl
@[simp] theorem State.setA_settings (s : State) (v : Byte) : (s.setA v).settings = s.settings := rfl

@[simp] theorem State.setX_a (s : State) (v : Byte) : (s.setX v).cpu.a = s.cpu.a := rfl
@[simp] theorem State.setX_x (s : State) (v : Byte) : (s.setX v).cpu.x = v := rfl
@[simp] theorem State.setX_y (s : State) (v : Byte) : (s.setX v).cpu.y = s.cpu.y := rfl
@[simp] theorem State.setX_sp (s : State) (v : Byte) : (s.setX v).cpu.sp = s.cpu.sp := rfl
@[simp] theorem State.setX_pc (s : State) (v : Byte) : (s.setX v).cpu.pc = s.cpu.pc := rfl
@[simp] theorem State.setX_flags (s : State) (v : Byte) : (s.setX v).cpu.flags = s.cpu.flags := rfl
@[simp] theorem State.setX_cycles (s : State) (v : Byte) : (s.setX v).cpu.cycles = s.cpu.cycles := rfl
@[simp] theorem State.setX_nmiPending (s : State) (v : Byte) : (s.setX v).cpu.nmiPending = s.cpu.nmiPending := rfl
@[simp] theorem State.setX_hostIrq (s : State) (v : Byte) : (s.setX v).cpu.hostIrq = s.cpu.hostIrq := rfl
@[simp] theorem State.setX_refused (s : State) (v : Byte) : (s.setX v).cpu.refused = s.cpu.refused := rfl
@[simp] theorem State.setX_bus (s : State) (v : Byte) : (s.setX v).bus = s.bus := rfl
@[simp] theorem State.setX_ppu (s : State) (v : Byte) : (s.setX v).ppu = s.ppu := rfl
@[simp] theorem State.setX_apu (s : State) (v : Byte) : (s.setX v).apu = s.apu := rfl
@[simp] theorem State.setX_cart (s : State) (v : Byte) : (s.setX v).cart = s.cart := rfl
@[simp] theorem State.setX_settings (s : State) (v : Byte) : (s.setX v).settings = s.settings := rfl

@[simp] theorem State.setY_a (s : State) (v : Byte) : (s.setY v).cpu.a = s.cpu.a := rfl
@[simp] theorem State.setY_x (s : State) (v : Byte) : (s.setY v).cpu.x = s.cpu.x := rfl
@[simp] theorem State.setY_y (s : State) (v : Byte) : (s.setY v).cpu.y = v := rfl
@[simp] theorem State.setY_sp (s : State) (v : Byte) : (s.setY v).cpu.sp = s.cpu.sp := rfl
@[simp] theorem State.setY_pc (s : State) (v : Byte) : (s.setY v).cpu.pc = s.cpu.pc := rfl
@[simp] theorem State.setY_flags (s : State) (v : Byte) : (s.setY v).cpu.flags = s.cpu.flags := rfl
@[simp] theorem State.setY_cycles (s : State) (v : Byte) : (s.setY v).cpu.cycles = s.cpu.cycles := rfl
@[simp] theorem State.setY_nmiPending (s : State) (v : Byte) : (s.setY v).cpu.nmiPending = s.cpu.nmiPending := rfl
@[simp] theorem State.setY_hostIrq (s : State) (v : Byte) : (s.setY v).cpu.hostIrq = s.cpu.hostIrq := rfl
@[simp] theorem State.setY_refused (s : State) (v : Byte) : (s.setY v).cpu.refused = s.cpu.refused := rfl
@[simp] theorem State.setY_bus (s : State) (v : Byte) : (s.setY v).bus = s.bus := rfl
@[simp] theorem State.setY_ppu (s : State) (v : Byte) : (s.setY v).ppu = s.ppu := rfl
@[simp] theorem State.setY_apu (s : State) (v : Byte) : (s.setY v).apu = s.apu := rfl
@[simp] theorem State.setY_cart (s : State) (v : Byte) : (s.setY v).cart = s.cart := rfl
@[simp] theorem State.setY_settings (s : State) (v : Byte) : (s.setY v).settings = s.settings := rfl

@[simp] theorem State.setSp_a (s : State) (v : Byte) : (s.setSp v).cpu.a = s.cpu.a := rfl
@[simp] theorem State.setSp_x (s : State) (v : Byte) : (s.setSp v).cpu.x = s.cpu.x := rfl
@[simp] theorem State.setSp_y (s : State) (v : Byte) : (s.setSp v).cpu.y = s.cpu.y := rfl
@[simp] theorem State.setSp_sp (s : State) (v : Byte) : (s.setSp v).cpu.sp = v := rfl
@[simp] theorem State.setSp_pc (s : State) (v : Byte) : (s.setSp v).cpu.pc = s.cpu.pc := rfl
@[simp] theorem State.setSp_flags (s : State) (v : Byte) : (s.setSp v).cpu.flags = s.cpu.flags := rfl
@[simp] theorem State.setSp_cycles (s : State) (v : Byte) : (s.setSp v).cpu.cycles = s.cpu.cycles := rfl
@[simp] theorem State.setSp_nmiPending (s : State) (v : Byte) : (s.setSp v).cpu.nmiPending = s.cpu.nmiPending := rfl
@[simp] theorem State.setSp_hostIrq (s : State) (v : Byte) : (s.setSp v).cpu.hostIrq = s.cpu.hostIrq := rfl
@[simp] theorem State.setSp_refused (s : State) (v : Byte) : (s.setSp v).cpu.refused = s.cpu.refused := rfl
@[simp] theorem State.setSp_bus (s : State) (v : Byte) : (s.setSp v).bus = s.bus := rfl
@[simp] theorem State.setSp_ppu (s : State) (v : Byte) : (s.setSp v).ppu = s.ppu := rfl
@[simp] theorem State.setSp_apu (s : State) (v : Byte) : (s.setSp v).apu = s.apu := rfl
@[simp] theorem State.setSp_cart (s : State) (v : Byte) : (s.setSp v).cart = s.cart := rfl
@[simp] theorem State.setSp_settings (s : State) (v : Byte) : (s.setSp v).settings = s.settings := rfl

@[simp] theorem State.setPc_a (s : State) (v : Word) : (s.setPc v).cpu.a = s.cpu.a := rfl
@[simp] theorem State.setPc_x (s : State) (v : Word) : (s.setPc v).cpu.x = s.cpu.x := rfl
@[simp] theorem State.setPc_y (s : State) (v : Word) : (s.setPc v).cpu.y = s.cpu.y := rfl
@[simp] theorem State.setPc_sp (s : State) (v : Word) : (s.setPc v).cpu.sp = s.cpu.sp := rfl
@[simp] theorem State.setPc_pc (s : State) (v : Word) : (s.setPc v).cpu.pc = v := rfl
@[simp] theorem State.setPc_flags (s : State) (v : Word) : (s.setPc v).cpu.flags = s.cpu.flags := rfl
@[simp] theorem State.setPc_cycles (s : State) (v : Word) : (s.setPc v).cpu.cycles = s.cpu.cycles := rfl
@[simp] theorem State.setPc_nmiPending (s : State) (v : Word) : (s.setPc v).cpu.nmiPending = s.cpu.nmiPending := rfl
@[simp] theorem State.setPc_hostIrq (s : State) (v : Word) : (s.setPc v).cpu.hostIrq = s.cpu.hostIrq := rfl
@[simp] theorem State.setPc_refused (s : State) (v : Word) : (s.setPc v).cpu.refused = s.cpu.refused := rfl
@[simp] theorem State.setPc_bus (s : State) (v : Word) : (s.setPc v).bus = s.bus := rfl
@[simp] theorem State.setPc_ppu (s : State) (v : Word) : (s.setPc v).ppu = s.ppu := rfl
@[simp] theorem State.setPc_apu (s : State) (v : Word) : (s.setPc v).apu = s.apu := rfl
@[simp] theorem State.setPc_cart (s : State) (v : Word) : (s.setPc v).cart = s.cart := rfl
@[simp] theorem State.setPc_settings (s : State) (v : Word) : (s.setPc v).settings = s.settings := rfl

@[simp] theorem State.setFlags_a (s : State) (v : Flags) : (s.setFlags v).cpu.a = s.cpu.a := rfl
@[simp] theorem State.setFlags_x (s : State) (v : Flags) : (s.setFlags v).cpu.x = s.cpu.x := rfl
@[simp] theorem State.setFlags_y (s : State) (v : Flags) : (s.setFlags v).cpu.y = s.cpu.y := rfl
@[simp] theorem State.setFlags_sp (s : State) (v : Flags) : (s.setFlags v).cpu.sp = s.cpu.sp := rfl
@[simp] theorem State.setFlags_pc (s : State) (v : Flags) : (s.setFlags v).cpu.pc = s.cpu.pc := rfl
@[simp] theorem State.setFlags_flags (s : State) (v : Flags) : (s.setFlags v).cpu.flags = v := rfl
@[simp] theorem State.setFlags_cycles (s : State) (v : Flags) : (s.setFlags v).cpu.cycles = s.cpu.cycles := rfl
@[simp] theorem State.setFlags_nmiPending (s : State) (v : Flags) : (s.setFlags v).cpu.nmiPending = s.cpu.nmiPending := rfl
@[simp] theorem State.setFlags_hostIrq (s : State) (v : Flags) : (s.setFlags v).cpu.hostIrq = s.cpu.hostIrq := rfl
@[simp] theorem State.setFlags_refused (s : State) (v : Flags) : (s.setFlags v).cpu.refused = s.cpu.refused := rfl
@[simp] theorem State.setFlags_bus (s : State) (v : Flags) : (s.setFlags v).bus = s.bus := rfl
@[simp] theorem State.setFlags_ppu (s : State) (v : Flags) : (s.setFlags v).ppu = s.ppu := rfl
@[simp] theorem State.setFlags_apu (s : State) (v : Flags) : (s.setFlags v).apu = s.apu := rfl
@[simp] theorem State.setFlags_cart (s : State) (v : Flags) : (s.setFlags v).cart = s.cart := rfl
@[simp] theorem State.setFlags_settings (s : State) (v : Flags) : (s.setFlags v).settings = s.settings := rfl

@[simp] theorem State.setZN_a (s : State) (v : Byte) : (s.setZN v).cpu.a = s.cpu.a := rfl
@[simp] theorem State.setZN_x (s : State) (v : Byte) : (s.setZN v).cpu.x = s.cpu.x := rfl
@[simp] theorem State.setZN_y (s : State) (v : Byte) : (s.setZN v).cpu.y = s.cpu.y := rfl
@[simp] theorem State.setZN_sp (s : State) (v : Byte) : (s.setZN v).cpu.sp = s.cpu.sp := rfl
@[simp] theorem State.setZN_pc (s : State) (v : Byte) : (s.setZN v).cpu.pc = s.cpu.pc := rfl
@[simp] theorem State.setZN_flags (s : State) (v : Byte) : (s.setZN v).cpu.flags = s.cpu.flags.setZN v := rfl
@[simp] theorem State.setZN_cycles (s : State) (v : Byte) : (s.setZN v).cpu.cycles = s.cpu.cycles := rfl
@[simp] theorem State.setZN_nmiPending (s : State) (v : Byte) : (s.setZN v).cpu.nmiPending = s.cpu.nmiPending := rfl
@[simp] theorem State.setZN_hostIrq (s : State) (v : Byte) : (s.setZN v).cpu.hostIrq = s.cpu.hostIrq := rfl
@[simp] theorem State.setZN_refused (s : State) (v : Byte) : (s.setZN v).cpu.refused = s.cpu.refused := rfl
@[simp] theorem State.setZN_bus (s : State) (v : Byte) : (s.setZN v).bus = s.bus := rfl
@[simp] theorem State.setZN_ppu (s : State) (v : Byte) : (s.setZN v).ppu = s.ppu := rfl
@[simp] theorem State.setZN_apu (s : State) (v : Byte) : (s.setZN v).apu = s.apu := rfl
@[simp] theorem State.setZN_cart (s : State) (v : Byte) : (s.setZN v).cart = s.cart := rfl
@[simp] theorem State.setZN_settings (s : State) (v : Byte) : (s.setZN v).settings = s.settings := rfl

@[simp] theorem State.addCycles_a (s : State) (v : Nat) : (s.addCycles v).cpu.a = s.cpu.a := rfl
@[simp] theorem State.addCycles_x (s : State) (v : Nat) : (s.addCycles v).cpu.x = s.cpu.x := rfl
@[simp] theorem State.addCycles_y (s : State) (v : Nat) : (s.addCycles v).cpu.y = s.cpu.y := rfl
@[simp] theorem State.addCycles_sp (s : State) (v : Nat) : (s.addCycles v).cpu.sp = s.cpu.sp := rfl
@[simp] theorem State.addCycles_pc (s : State) (v : Nat) : (s.addCycles v).cpu.pc = s.cpu.pc := rfl
@[simp] theorem State.addCycles_flags (s : State) (v : Nat) : (s.addCycles v).cpu.flags = s.cpu.flags := rfl
@[simp] theorem State.addCycles_cycles (s : State) (v : Nat) : (s.addCycles v).cpu.cycles = s.cpu.cycles + v := rfl
@[simp] theorem State.addCycles_nmiPending (s : State) (v : Nat) : (s.addCycles v).cpu.nmiPending = s.cpu.nmiPending := rfl
@[simp] theorem State.addCycles_hostIrq (s : State) (v : Nat) : (s.addCycles v).cpu.hostIrq = s.cpu.hostIrq := rfl
@[simp] theorem State.addCycles_refused (s : State) (v : Nat) : (s.addCycles v).cpu.refused = s.cpu.refused := rfl
@[simp] theorem State.addCycles_bus (s : State) (v : Nat) : (s.addCycles v).bus = s.bus := rfl
@[simp] theorem State.addCycles_ppu (s : State) (v : Nat) : (s.addCycles v).ppu = s.ppu := rfl
@[simp] theorem State.addCycles_apu (s : State) (v : Nat) : (s.addCycles v).apu = s.apu := rfl
@[simp] theorem State.addCycles_cart (s : State) (v : Nat) : (s.addCycles v).cart = s.cart := rfl
@[simp] theorem State.addCycles_settings (s : State) (v : Nat) : (s.addCycles v).settings = s.settings := rfl

@[simp] theorem State.clearNmi_a (s : State) : s.clearNmi.cpu.a = s.cpu.a := rfl
@[simp] theorem State.clearNmi_x (s : State) : s.clearNmi.cpu.x = s.cpu.x := rfl
@[simp] theorem State.clearNmi_y (s : State) : s.clearNmi.cpu.y = s.cpu.y := rfl
@[simp] theorem State.clearNmi_sp (s : State) : s.clearNmi.cpu.sp = s.cpu.sp := rfl
@[simp] theorem State.clearNmi_pc (s : State) : s.clearNmi.cpu.pc = s.cpu.pc := rfl
@[simp] theorem State.clearNmi_flags (s : State) : s.clearNmi.cpu.flags = s.cpu.flags := rfl
@[simp] theorem State.clearNmi_cycles (s : State) : s.clearNmi.cpu.cycles = s.cpu.cycles := rfl
@[simp] theorem State.clearNmi_nmiPending (s : State) : s.clearNmi.cpu.nmiPending = false := rfl
@[simp] theorem State.clearNmi_hostIrq (s : State) : s.clearNmi.cpu.hostIrq = s.cpu.hostIrq := rfl
@[simp] theorem State.clearNmi_refused (s : State) : s.clearNmi.cpu.refused = s.cpu.refused := rfl
@[simp] theorem State.clearNmi_bus (s : State) : s.clearNmi.bus = s.bus := rfl
@[simp] theorem State.clearNmi_ppu (s : State) : s.clearNmi.ppu = s.ppu := rfl
@[simp] theorem State.clearNmi_apu (s : State) : s.clearNmi.apu = s.apu := rfl
@[simp] theorem State.clearNmi_cart (s : State) : s.clearNmi.cart = s.cart := rfl
@[simp] theorem State.clearNmi_settings (s : State) : s.clearNmi.settings = s.settings := rfl

@[simp] theorem State.drawn_a (s : State) : s.drawn.cpu.a = s.cpu.a := rfl
@[simp] theorem State.drawn_x (s : State) : s.drawn.cpu.x = s.cpu.x := rfl
@[simp] theorem State.drawn_y (s : State) : s.drawn.cpu.y = s.cpu.y := rfl
@[simp] theorem State.drawn_sp (s : State) : s.drawn.cpu.sp = s.cpu.sp := rfl
@[simp] theorem State.drawn_pc (s : State) : s.drawn.cpu.pc = s.cpu.pc := rfl
@[simp] theorem State.drawn_flags (s : State) : s.drawn.cpu.flags = s.cpu.flags := rfl
@[simp] theorem State.drawn_cycles (s : State) : s.drawn.cpu.cycles = s.cpu.cycles := rfl
@[simp] theorem State.drawn_nmiPending (s : State) : s.drawn.cpu.nmiPending = s.cpu.nmiPending := rfl
@[simp] theorem State.drawn_hostIrq (s : State) : s.drawn.cpu.hostIrq = s.cpu.hostIrq := rfl
@[simp] theorem State.drawn_refused (s : State) : s.drawn.cpu.refused = s.cpu.refused := rfl
@[simp] theorem State.drawn_ppu (s : State) : s.drawn.ppu = s.ppu := rfl
@[simp] theorem State.drawn_apu (s : State) : s.drawn.apu = s.apu := rfl
@[simp] theorem State.drawn_cart (s : State) : s.drawn.cart = s.cart := rfl
@[simp] theorem State.drawn_settings (s : State) : s.drawn.settings = s.settings := rfl

@[simp] theorem State.drawn_ram (s : State) : s.drawn.bus.ram = s.bus.ram := rfl
@[simp] theorem State.drawn_input0 (s : State) : s.drawn.bus.input0 = s.bus.input0 := rfl
@[simp] theorem State.drawn_input1 (s : State) : s.drawn.bus.input1 = s.bus.input1 := rfl
@[simp] theorem State.drawn_shift0 (s : State) : s.drawn.bus.shift0 = s.bus.shift0 := rfl
@[simp] theorem State.drawn_shift1 (s : State) : s.drawn.bus.shift1 = s.bus.shift1 := rfl
@[simp] theorem State.drawn_strobe (s : State) : s.drawn.bus.strobe = s.bus.strobe := rfl
@[simp] theorem State.drawn_openBus (s : State) : s.drawn.bus.openBus = s.bus.openBus := rfl
@[simp] theorem State.drawn_dmaPage (s : State) : s.drawn.bus.dmaPage = s.bus.dmaPage := rfl
@[simp] theorem State.drawn_dmaPending (s : State) : s.drawn.bus.dmaPending = s.bus.dmaPending := rfl
@[simp] theorem State.drawn_draws (s : State) : s.drawn.bus.draws = s.bus.draws + 1 := rfl

@[simp] theorem State.withVideo_cpu (s : State) (b : Video) : (s.withVideo b).cpu = s.cpu := rfl
@[simp] theorem State.withVideo_bus (s : State) (b : Video) : (s.withVideo b).bus = s.bus := rfl
@[simp] theorem State.withVideo_apu (s : State) (b : Video) : (s.withVideo b).apu = s.apu := rfl
@[simp] theorem State.withVideo_settings (s : State) (b : Video) : (s.withVideo b).settings = s.settings := rfl
@[simp] theorem State.withVideo_ppu (s : State) (b : Video) : (s.withVideo b).ppu = b.ppu := rfl
@[simp] theorem State.withVideo_cart (s : State) (b : Video) : (s.withVideo b).cart = b.cart := rfl

/-! The flags of `SetZN` (R19). -/

@[simp] theorem Flags.setZN_c (f : Flags) (v : Byte) : (f.setZN v).c = f.c := rfl
@[simp] theorem Flags.setZN_i (f : Flags) (v : Byte) : (f.setZN v).i = f.i := rfl
@[simp] theorem Flags.setZN_d (f : Flags) (v : Byte) : (f.setZN v).d = f.d := rfl
@[simp] theorem Flags.setZN_v (f : Flags) (v : Byte) : (f.setZN v).v = f.v := rfl
@[simp] theorem Flags.setZN_z (f : Flags) (v : Byte) : (f.setZN v).z = (v == 0) := rfl
@[simp] theorem Flags.setZN_n (f : Flags) (v : Byte) : (f.setZN v).n = bit v 7 := rfl

/-! The flags a whole write of P stores (R102, R103). -/

@[simp] theorem Flags.ofByte_c (v : Byte) : (Flags.ofByte v).c = bit v 0 := rfl
@[simp] theorem Flags.ofByte_z (v : Byte) : (Flags.ofByte v).z = bit v 1 := rfl
@[simp] theorem Flags.ofByte_i (v : Byte) : (Flags.ofByte v).i = bit v 2 := rfl
@[simp] theorem Flags.ofByte_d (v : Byte) : (Flags.ofByte v).d = bit v 3 := rfl
@[simp] theorem Flags.ofByte_v (v : Byte) : (Flags.ofByte v).v = bit v 6 := rfl
@[simp] theorem Flags.ofByte_n (v : Byte) : (Flags.ofByte v).n = bit v 7 := rfl

end Sys2Proof.Machine
end

