-- ==== Sys2Proof/Laws/Bus.lean ====
section
/-! SUPPORT. What a bus read and a bus write can do, range by range (spec 20 R200, R201), and the same for the
operations over them: 16-bit reads, the stack, taking an interrupt and returning from one, operands. -/

namespace Sys2Proof.Machine

/-! ### Words -/

theorem wordOf_toNat (l h : Byte) : (wordOf l h).toNat = h.toNat * 256 + l.toNat := by
  unfold wordOf
  show BitVec.toNat (h ++ l : BitVec (8 + 8)) = _
  rw [BitVec.toNat_append, Nat.shiftLeft_eq]
  have h1 := l.isLt
  rw [Nat.mul_comm, ← Nat.two_pow_add_eq_or_of_lt h1]

theorem loByte_toNat (a : Word) : (loByte a).toNat = a.toNat % 256 := by simp [loByte]

theorem hiByte_toNat (a : Word) : (hiByte a).toNat = a.toNat / 256 := by
  have := a.isLt
  simp only [hiByte, BitVec.extractLsb'_toNat, Nat.shiftRight_eq_div_pow]
  omega

@[simp] theorem wordOf_loByte_hiByte (a : Word) : wordOf (loByte a) (hiByte a) = a := by
  apply BitVec.eq_of_toNat_eq
  rw [wordOf_toNat, loByte_toNat, hiByte_toNat]; omega

@[simp] theorem loByte_wordOf (l h : Byte) : loByte (wordOf l h) = l := by
  apply BitVec.eq_of_toNat_eq
  have := l.isLt
  rw [loByte_toNat, wordOf_toNat]; omega

@[simp] theorem hiByte_wordOf (l h : Byte) : hiByte (wordOf l h) = h := by
  apply BitVec.eq_of_toNat_eq
  have := l.isLt
  rw [hiByte_toNat, wordOf_toNat]; omega

theorem stackAddr_toNat (sp : Byte) : (stackAddr sp).toNat = 0x100 + sp.toNat := by
  revert sp; decide

theorem zpWord_toNat (b : Byte) : (zpWord b).toNat = b.toNat := by
  have := b.isLt
  simp only [zpWord, BitVec.toNat_setWidth]; omega

/-! ### Reads -/

theorem State.read_ram (s : State) {a : Word} (h : a.toNat < 0x2000) :
    s.read a = (s.bus.ram.get (a.toNat % 0x800), s) := by
  simp only [State.read, h, if_true]

theorem State.read_ppu (s : State) {a : Word} (h : 0x2000 ≤ a.toNat) (h' : a.toNat < 0x4000) :
    s.read a = s.readPpuReg (a.toNat % 8) := by
  simp only [State.read, Nat.not_lt.2 h, h', if_true, if_false]

theorem State.read_cart (s : State) {a : Word} (h : 0x4020 ≤ a.toNat) : s.read a = s.readCart a := by
  unfold State.read
  simp only [show ¬ a.toNat < 0x2000 by omega, show ¬ a.toNat < 0x4000 by omega, show a.toNat ≠ 0x4015 by omega,
    show a.toNat ≠ 0x4016 by omega, show a.toNat ≠ 0x4017 by omega, show ¬ a.toNat < 0x4020 by omega, if_false]

theorem Cart.cpuRead_prgRam (c : Cart) {a : Word} (h : 0x6000 ≤ a.toNat) (h' : a.toNat < 0x8000) :
    c.cpuRead a = some (c.prgRam.get (a.toNat - 0x6000)) := by
  simp only [Cart.cpuRead, Nat.not_lt.2 h, h', if_true, if_false]

theorem Cart.cpuRead_rom (c : Cart) {a : Word} (h : 0x8000 ≤ a.toNat) :
    c.cpuRead a = some (c.prgRom.get (c.prgIndex a)) := by
  simp only [Cart.cpuRead, show ¬ a.toNat < 0x6000 by omega, Nat.not_lt.2 h, if_false]

theorem State.read_prgRam (s : State) {a : Word} (h : 0x6000 ≤ a.toNat) (h' : a.toNat < 0x8000) :
    s.read a = (s.cart.prgRam.get (a.toNat - 0x6000), s) := by
  rw [s.read_cart (by omega)]; simp only [State.readCart, s.cart.cpuRead_prgRam h h']

theorem State.read_rom (s : State) {a : Word} (h : 0x8000 ≤ a.toNat) :
    s.read a = (s.cart.prgRom.get (s.cart.prgIndex a), s) := by
  rw [s.read_cart (by omega)]; simp only [State.readCart, s.cart.cpuRead_rom h]

/-- A read of plain memory gives the byte `Peek` gives, and changes nothing. -/
theorem State.read_plain (s : State) {a : Word} (h : a.toNat < 0x2000 ∨ 0x6000 ≤ a.toNat) :
    s.read a = (s.peek a, s) := by
  unfold State.peek
  rcases h with h | h
  · rw [s.read_ram h]; simp only [h, if_true]
  · by_cases h' : a.toNat < 0x8000
    · rw [s.read_prgRam h h', s.cart.cpuRead_prgRam h h']
      simp only [show ¬ a.toNat < 0x2000 by omega, show ¬ a.toNat < 0x4020 by omega, if_false, Option.getD_some]
    · rw [s.read_rom (by omega), s.cart.cpuRead_rom (by omega)]
      simp only [show ¬ a.toNat < 0x2000 by omega, show ¬ a.toNat < 0x4020 by omega, if_false, Option.getD_some]

/-! What a PPU-space read and a $2007 read leave alone: the A12 watch may clock the MMC3's counter. -/

/-- `MapperNotify` touches only the MMC3's A12 and counter fields. -/
theorem Mmc3.notify_frame (m : Mmc3) (filter : Nat) (a : PpuAddr) (t : Nat) :
    m.notify filter a t = { m with
      irqCounter := (m.notify filter a t).irqCounter
      irqReload := (m.notify filter a t).irqReload
      irqPending := (m.notify filter a t).irqPending
      a12Prev := (m.notify filter a t).a12Prev
      a12LowSince := (m.notify filter a t).a12LowSince } := by
  simp only [Mmc3.notify]
  split <;> rfl

/-- `MapperNotify` touches only the MMC3's A12 and counter fields. -/
theorem Cart.notify_frame (c : Cart) (filter : Nat) (a : PpuAddr) (t : Nat) :
    c.notify filter a t = { c with mmc3 := { c.mmc3 with
      irqCounter := (c.notify filter a t).mmc3.irqCounter
      irqReload := (c.notify filter a t).mmc3.irqReload
      irqPending := (c.notify filter a t).mmc3.irqPending
      a12Prev := (c.notify filter a t).mmc3.a12Prev
      a12LowSince := (c.notify filter a t).mmc3.a12LowSince } } := by
  unfold Cart.notify
  split
  · simp only
    rw [Mmc3.notify_frame]
  · rfl

theorem ReadFrame.refl (s : State) : ReadFrame s s := ⟨rfl, rfl, rfl, rfl, rfl, rfl⟩

theorem ReadFrame.trans {s t u : State} (h : ReadFrame s t) (k : ReadFrame t u) : ReadFrame s u where
  cpu := k.cpu.trans h.cpu
  bus := by rw [k.bus, h.bus]
  ppu := by rw [k.ppu, h.ppu]
  apu := by rw [k.apu, h.apu]
  cart := by rw [k.cart, h.cart]
  settings := k.settings.trans h.settings

theorem Video.dataRead_cart (b : Video) : ∃ c, b.dataRead.2.cart = c ∧ c = { b.cart with mmc3 := { b.cart.mmc3 with
    irqCounter := c.mmc3.irqCounter
    irqReload := c.mmc3.irqReload
    irqPending := c.mmc3.irqPending
    a12Prev := c.mmc3.a12Prev
    a12LowSince := c.mmc3.a12LowSince } } := by
  refine ⟨_, rfl, ?_⟩
  unfold Video.dataRead
  simp only
  split
  · simp only [Video.read, Video.notify]; exact Cart.notify_frame ..
  · simp only [Video.read, Video.notify]
    rw [Cart.notify_frame (b.cart.notify _ _ _), Cart.notify_frame b.cart]

theorem Video.dataRead_ppu (b : Video) :
    b.dataRead.2.ppu = { b.ppu with readBuffer := b.dataRead.2.ppu.readBuffer, v := b.dataRead.2.ppu.v } := by
  unfold Video.dataRead
  simp only
  split <;> rfl

/-- Everything a bus read can do to the state. -/
theorem State.read_frame (s : State) (a : Word) : ReadFrame s (s.read a).2 := by
  unfold State.read
  simp only
  split
  · exact .refl s
  split
  · unfold State.readPpuReg
    split
    · exact ⟨rfl, rfl, rfl, rfl, rfl, rfl⟩
    · exact .refl s
    · obtain ⟨c, h1, h2⟩ := Video.dataRead_cart ⟨s.ppu, s.cart, s.settings⟩
      have hp := Video.dataRead_ppu ⟨s.ppu, s.cart, s.settings⟩
      refine ⟨rfl, rfl, ?_, rfl, by rw [← h1] at h2; exact h2, rfl⟩
      simp only [State.withVideo]
      generalize (Video.dataRead ⟨s.ppu, s.cart, s.settings⟩).2.ppu = p at hp ⊢
      rw [hp]
    · exact ⟨rfl, rfl, rfl, rfl, rfl, rfl⟩
  split
  · exact ⟨rfl, rfl, rfl, rfl, rfl, rfl⟩
  split
  · unfold State.readController0; split <;> exact ⟨rfl, rfl, rfl, rfl, rfl, rfl⟩
  split
  · unfold State.readController1; split <;> exact ⟨rfl, rfl, rfl, rfl, rfl, rfl⟩
  split
  · exact ⟨rfl, rfl, rfl, rfl, rfl, rfl⟩
  · unfold State.readCart
    split <;> exact ⟨rfl, rfl, rfl, rfl, rfl, rfl⟩

/-- A read looks at no CPU register and changes none. -/
theorem State.read_withCpu (s : State) (c : Cpu) (a : Word) :
    (s.withCpu c).read a = ((s.read a).1, (s.read a).2.withCpu c) := by
  unfold State.read
  simp only
  split
  · rfl
  split
  · unfold State.readPpuReg
    split <;> rfl
  split
  · rfl
  split
  · unfold State.readController0
    show ite (s.bus.strobe = true) _ _ = _
    split <;> rfl
  split
  · unfold State.readController1
    show ite (s.bus.strobe = true) _ _ = _
    split <;> rfl
  split
  · rfl
  · unfold State.readCart
    show (match s.cart.cpuRead a with | some v => (v, s.withCpu c) | none => (s.withCpu c).readOpenBus) = _
    cases s.cart.cpuRead a <;> rfl

@[simp] theorem State.read_settings (s : State) (a : Word) : (s.read a).2.settings = s.settings :=
  (s.read_frame a).settings

@[simp] theorem State.read_cpu (s : State) (a : Word) : (s.read a).2.cpu = s.cpu := (s.read_frame a).cpu

/-- The PRG byte an address names depends only on the cartridge's size and the MMC3's bank registers. -/
theorem Cart.prgIndex_congr {c d : Cart} (hid : c.mapperId = d.mapperId) (hn : c.prgBanks = d.prgBanks)
    (hm : c.mmc3.prgMode = d.mmc3.prgMode) (h6 : c.mmc3.r6 = d.mmc3.r6) (h7 : c.mmc3.r7 = d.mmc3.r7) (a : Word) :
    c.prgIndex a = d.prgIndex a := by
  have hb (n w : Nat) : c.mmc3.prgBank n w = d.mmc3.prgBank n w := by
    unfold Mmc3.prgBank; rw [hm, h6, h7]
  unfold Cart.prgIndex Cart.isMmc3 Cart.prgSize
  simp only [hb]
  rw [hid, hn]

/-- Reads leave the PRG bank of every address alone. -/
theorem ReadFrame.prgIndex {s t : State} (h : ReadFrame s t) (a : Word) :
    t.cart.prgIndex a = s.cart.prgIndex a :=
  Cart.prgIndex_congr (by rw [h.cart]) (by rw [h.cart]) (by rw [h.cart]) (by rw [h.cart]) (by rw [h.cart]) a

theorem ReadFrame.prgRom {s t : State} (h : ReadFrame s t) : t.cart.prgRom = s.cart.prgRom := by rw [h.cart]

theorem ReadFrame.prgRam {s t : State} (h : ReadFrame s t) : t.cart.prgRam = s.cart.prgRam := by rw [h.cart]

theorem ReadFrame.ram {s t : State} (h : ReadFrame s t) : t.bus.ram = s.bus.ram := by rw [h.bus]

/-- A state reached by reads only has the same byte at every plain address. -/
theorem ReadFrame.peek {s t : State} (h : ReadFrame s t) {a : Word} (ha : a.toNat < 0x2000 ∨ 0x6000 ≤ a.toNat) :
    t.peek a = s.peek a := by
  unfold State.peek
  rcases ha with ha | ha
  · simp only [ha, if_true, h.ram]
  · simp only [show ¬ a.toNat < 0x2000 by omega, show ¬ a.toNat < 0x4020 by omega, if_false]
    by_cases h' : a.toNat < 0x8000
    · rw [Cart.cpuRead_prgRam _ ha h', Cart.cpuRead_prgRam _ ha h', h.prgRam]; rfl
    · rw [Cart.cpuRead_rom _ (by omega), Cart.cpuRead_rom _ (by omega), h.prgRom, h.prgIndex]; rfl

/-! ### Writes -/

theorem State.write_ram (s : State) {a : Word} (h : a.toNat < 0x2000) (v : Byte) :
    s.write a v = s.writeRam a.toNat v := by
  simp only [State.write, h, if_true]

theorem State.write_ppu (s : State) {a : Word} (h : 0x2000 ≤ a.toNat) (h' : a.toNat < 0x4000) (v : Byte) :
    s.write a v = s.writePpuReg (a.toNat % 8) v := by
  simp only [State.write, Nat.not_lt.2 h, h', if_true, if_false]

theorem State.write_dma (s : State) {a : Word} (h : a.toNat = 0x4014) (v : Byte) :
    s.write a v = s.requestDma v := by
  simp only [State.write, h]; rfl

theorem State.write_strobe (s : State) {a : Word} (h : a.toNat = 0x4016) (v : Byte) :
    s.write a v = s.writeStrobe v := by
  simp only [State.write, h]; rfl

theorem State.write_apu (s : State) {a : Word} (h : 0x4000 ≤ a.toNat) (h' : a.toNat < 0x4018)
    (h14 : a.toNat ≠ 0x4014) (h16 : a.toNat ≠ 0x4016) (v : Byte) :
    s.write a v = { s with apu := s.apu.write (a.toNat - 0x4000) v } := by
  simp only [State.write, show ¬ a.toNat < 0x2000 by omega, show ¬ a.toNat < 0x4000 by omega, h14, h16, h', if_true,
    if_false]

theorem State.write_none (s : State) {a : Word} (h : 0x4018 ≤ a.toNat) (h' : a.toNat < 0x4020) (v : Byte) :
    s.write a v = s := by
  simp only [State.write, show ¬ a.toNat < 0x2000 by omega, show ¬ a.toNat < 0x4000 by omega,
    show a.toNat ≠ 0x4014 by omega, show a.toNat ≠ 0x4016 by omega, show ¬ a.toNat < 0x4018 by omega, h', if_true,
    if_false]

theorem State.write_cart (s : State) {a : Word} (h : 0x4020 ≤ a.toNat) (v : Byte) :
    s.write a v = { s with cart := s.cart.cpuWrite a v } := by
  simp only [State.write, show ¬ a.toNat < 0x2000 by omega, show ¬ a.toNat < 0x4000 by omega,
    show a.toNat ≠ 0x4014 by omega, show a.toNat ≠ 0x4016 by omega, show ¬ a.toNat < 0x4018 by omega,
    show ¬ a.toNat < 0x4020 by omega, if_false]

/-- The ranges a bus write decodes to (R201). -/
theorem writeRange (a : Word) :
    a.toNat < 0x2000 ∨ (0x2000 ≤ a.toNat ∧ a.toNat < 0x4000) ∨ a.toNat = 0x4014 ∨ a.toNat = 0x4016 ∨
    (0x4000 ≤ a.toNat ∧ a.toNat < 0x4018 ∧ a.toNat ≠ 0x4014 ∧ a.toNat ≠ 0x4016) ∨
    (0x4018 ≤ a.toNat ∧ a.toNat < 0x4020) ∨ 0x4020 ≤ a.toNat := by omega

/-- A bus write changes no CPU register; only the NMI latch may be set (R782). -/
theorem State.write_cpu (s : State) (a : Word) (v : Byte) :
    (s.write a v).cpu = { s.cpu with nmiPending := (s.write a v).cpu.nmiPending } := by
  unfold State.write
  simp only
  split
  · rfl
  split
  · unfold State.writePpuReg; split <;> rfl
  split
  · rfl
  split
  · unfold State.writeStrobe; simp only; split <;> rfl
  split
  · rfl
  split <;> rfl

@[simp] theorem State.write_a (s : State) (a : Word) (v : Byte) : (s.write a v).cpu.a = s.cpu.a := by
  rw [State.write_cpu]
@[simp] theorem State.write_x (s : State) (a : Word) (v : Byte) : (s.write a v).cpu.x = s.cpu.x := by
  rw [State.write_cpu]
@[simp] theorem State.write_y (s : State) (a : Word) (v : Byte) : (s.write a v).cpu.y = s.cpu.y := by
  rw [State.write_cpu]
@[simp] theorem State.write_sp (s : State) (a : Word) (v : Byte) : (s.write a v).cpu.sp = s.cpu.sp := by
  rw [State.write_cpu]
@[simp] theorem State.write_pc (s : State) (a : Word) (v : Byte) : (s.write a v).cpu.pc = s.cpu.pc := by
  rw [State.write_cpu]
@[simp] theorem State.write_flags (s : State) (a : Word) (v : Byte) : (s.write a v).cpu.flags = s.cpu.flags := by
  rw [State.write_cpu]
@[simp] theorem State.write_cycles (s : State) (a : Word) (v : Byte) :
    (s.write a v).cpu.cycles = s.cpu.cycles := by
  rw [State.write_cpu]
@[simp] theorem State.write_refused (s : State) (a : Word) (v : Byte) :
    (s.write a v).cpu.refused = s.cpu.refused := by
  rw [State.write_cpu]

@[simp] theorem State.write_settings (s : State) (a : Word) (v : Byte) : (s.write a v).settings = s.settings := by
  unfold State.write
  simp only
  split
  · rfl
  split
  · unfold State.writePpuReg; split <;> rfl
  split
  · rfl
  split
  · unfold State.writeStrobe; simp only; split <;> rfl
  split
  · rfl
  split <;> rfl

/-! ### The stack: always RAM (R105) -/

theorem stackAddr_lt (sp : Byte) : (stackAddr sp).toNat < 0x2000 := by
  have := sp.isLt
  rw [stackAddr_toNat]; omega

theorem State.push_eq (s : State) (v : Byte) :
    s.push v = { s with
      bus := { s.bus with ram := s.bus.ram.set (0x100 + s.cpu.sp.toNat) v }
      cpu := { s.cpu with sp := s.cpu.sp - 1 } } := by
  have := s.cpu.sp.isLt
  unfold State.push
  rw [s.write_ram (stackAddr_lt _), stackAddr_toNat, State.writeRam,
    Nat.mod_eq_of_lt (show 0x100 + s.cpu.sp.toNat < 0x800 by omega)]
  rfl

theorem State.pull_eq (s : State) :
    s.pull = (s.bus.ram.get (0x100 + (s.cpu.sp + 1).toNat), s.setSp (s.cpu.sp + 1)) := by
  have := (s.cpu.sp + 1).isLt
  unfold State.pull
  simp only [State.setSp_sp]
  rw [State.read_ram _ (stackAddr_lt _), stackAddr_toNat,
    Nat.mod_eq_of_lt (show 0x100 + (s.cpu.sp + 1).toNat < 0x800 by omega)]
  rfl

theorem State.pushWord_eq (s : State) (w : Word) :
    s.pushWord w = { s with
      bus := { s.bus with ram :=
        (s.bus.ram.set (0x100 + s.cpu.sp.toNat) (hiByte w)).set (0x100 + (s.cpu.sp - 1).toNat) (loByte w) }
      cpu := { s.cpu with sp := s.cpu.sp - 2 } } := by
  unfold State.pushWord
  rw [State.push_eq, State.push_eq]
  simp only [BitVec.sub_sub]
  rfl

theorem State.pullWord_eq (s : State) :
    s.pullWord = (wordOf (s.bus.ram.get (0x100 + (s.cpu.sp + 1).toNat))
      (s.bus.ram.get (0x100 + (s.cpu.sp + 2).toNat)), s.setSp (s.cpu.sp + 2)) := by
  unfold State.pullWord
  simp only [State.pull_eq, State.setSp_bus, State.setSp_sp, BitVec.add_assoc]
  rfl

/-- What was pushed last is what a pull gives. -/
theorem State.pull_push (s : State) (v : Byte) : (s.push v).pull.1 = v := by
  rw [State.pull_eq, State.push_eq]
  simp only [BitVec.sub_add_cancel, Memory.get_set_self]

/-! ### Taking an interrupt and returning from one -/

theorem irqVector_le : 0x8000 ≤ irqVector.toNat ∧ 0x8000 ≤ (irqVector + 1).toNat := by decide

theorem nmiVector_le : 0x8000 ≤ nmiVector.toNat ∧ 0x8000 ≤ (nmiVector + 1).toNat := by decide

theorem resetVector_le : 0x8000 ≤ resetVector.toNat ∧ 0x8000 ≤ (resetVector + 1).toNat := by decide

/-- A 16-bit read whose two bytes are in PRG-ROM changes nothing. -/
theorem State.read16_rom (s : State) {a : Word} (h : 0x8000 ≤ a.toNat ∧ 0x8000 ≤ (a + 1).toNat) :
    s.read16 a = (wordOf (s.peek a) (s.peek (a + 1)), s) := by
  unfold State.read16
  simp only [s.read_plain (a := a) (by omega), s.read_plain (a := a + 1) (by omega)]

/-- Everything taking an interrupt does, for a vector in PRG-ROM (R720, R575). -/
theorem State.enterHandler_eq (s : State) (pushed : Byte) {vector : Word}
    (h : 0x8000 ≤ vector.toNat ∧ 0x8000 ≤ (vector + 1).toNat) :
    s.enterHandler pushed vector = { s with
      bus := { s.bus with ram := ((s.bus.ram.set (0x100 + s.cpu.sp.toNat) (hiByte s.cpu.pc)).set
        (0x100 + (s.cpu.sp - 1).toNat) (loByte s.cpu.pc)).set (0x100 + (s.cpu.sp - 2).toNat) pushed }
      cpu := { s.cpu with
        sp := s.cpu.sp - 3
        flags := { s.cpu.flags with i := true }
        pc := wordOf (s.peek vector) (s.peek (vector + 1)) } } := by
  have hp (t : State) (hc : t.cart = s.cart) (a : Word) (ha : 0x8000 ≤ a.toNat) : t.peek a = s.peek a := by
    unfold State.peek
    simp only [show ¬ a.toNat < 0x2000 by omega, show ¬ a.toNat < 0x4020 by omega, if_false, hc,
      s.cart.cpuRead_rom ha, Option.getD_some]
  unfold State.enterHandler
  simp only
  rw [State.read16_rom _ h, hp _ (by rw [State.push_eq, State.pushWord_eq]; rfl) _ h.1,
    hp _ (by rw [State.push_eq, State.pushWord_eq]; rfl) _ h.2, State.pushWord_eq, State.push_eq]
  simp only [BitVec.sub_sub]
  rfl

/-- Everything returning from an interrupt does (R563, R725). -/
theorem State.returnFromHandler_eq (s : State) :
    s.returnFromHandler = { s with cpu := { s.cpu with
      flags := Flags.ofByte (s.bus.ram.get (0x100 + (s.cpu.sp + 1).toNat))
      sp := s.cpu.sp + 3
      pc := wordOf (s.bus.ram.get (0x100 + (s.cpu.sp + 2).toNat))
        (s.bus.ram.get (0x100 + (s.cpu.sp + 3).toNat)) } } := by
  unfold State.returnFromHandler
  simp only [State.pull_eq, State.pullWord_eq, State.setFlags_sp, State.setFlags_bus, State.setSp_bus,
    State.setSp_sp, BitVec.add_assoc]
  rfl

/-! ### Operands: the pointer reads are reads of the zero page -/

theorem State.read16Zp_eq (s : State) (zp : Byte) :
    s.read16Zp zp = (wordOf (s.bus.ram.get zp.toNat) (s.bus.ram.get (zp + 1).toNat), s) := by
  have h1 := zp.isLt
  have h2 := (zp + 1).isLt
  unfold State.read16Zp
  rw [State.read_ram s (a := zpWord zp) (by rw [zpWord_toNat]; omega), zpWord_toNat]
  simp only
  rw [State.read_ram s (a := zpWord (zp + 1)) (by rw [zpWord_toNat]; omega), zpWord_toNat,
    Nat.mod_eq_of_lt (show zp.toNat < 0x800 by omega), Nat.mod_eq_of_lt (show (zp + 1).toNat < 0x800 by omega)]

/-- Resolving an operand changes nothing. -/
@[simp] theorem Mem.resolve_st (m : Mem) (s : State) : (m.resolve s).st = s := by
  cases m <;> simp [Mem.resolve, indexed, State.read16Zp_eq]

/-- What an operand's read leaves alone. -/
theorem Operand.load_frame (o : Operand) (s : State) : ReadFrame s (o.load s).st := by
  cases o with
  | imm b => exact .refl s
  | mem m => simp only [Operand.load, Mem.resolve_st]; exact s.read_frame _

@[simp] theorem Operand.load_cpu (o : Operand) (s : State) : (o.load s).st.cpu = s.cpu := (o.load_frame s).cpu

end Sys2Proof.Machine
end

