-- ==== Sys2Proof/Laws/Apu.lean ====
section
/-! SUPPORT. What one APU cycle and an APU register write can do (spec 62), and that they keep the APU's part of the
invariant. -/

namespace Sys2Proof.Machine

/-- Shifting a nonzero LFSR with its feedback bit leaves it nonzero (R907). -/
theorem Noise.shiftLfsr_ne_zero (n : Noise) (h : n.lfsr ≠ 0) : n.shiftLfsr ≠ 0 := by
  intro h0
  apply h
  have hb (i : Nat) : n.shiftLfsr.getLsbD i = false := by rw [h0]; simp
  unfold Noise.shiftLfsr at hb
  have hfb : n.feedback = false := by
    have := hb 14
    simpa using this
  have hup (i : Nat) (hi : 1 ≤ i) : n.lfsr.getLsbD i = false := by
    obtain ⟨j, rfl⟩ : ∃ j, i = 1 + j := ⟨i - 1, by omega⟩
    have := hb j
    rw [hfb] at this
    simpa using this
  have h00 : n.lfsr.getLsbD 0 = false := by
    unfold Noise.feedback at hfb
    rw [hup 6 (by omega), hup 1 (by omega)] at hfb
    simpa using hfb
  apply BitVec.eq_of_getLsbD_eq
  intro i hi
  rcases Nat.eq_zero_or_pos i with rfl | hp
  · rw [h00]; simp
  · rw [hup i hp]; simp

theorem Noise.clockTimer_lfsr (n : Noise) (h : n.lfsr ≠ 0) : n.clockTimer.lfsr ≠ 0 := by
  unfold Noise.clockTimer
  split
  · exact n.shiftLfsr_ne_zero h
  · exact h

/-- The DMC's part of the invariant. -/
structure DmcInv (d : Dmc) : Prop where
  bitsLeft : 1 ≤ d.bitsLeft.toNat ∧ d.bitsLeft.toNat ≤ 8
  curAddr : d.bytesLeft ≠ 0 → 0x8000 ≤ d.curAddr.toNat

theorem Dmc.outputClock_inv (d : Dmc) (h : DmcInv d) : DmcInv d.outputClock := by
  unfold Dmc.outputClock
  obtain ⟨⟨h1, h2⟩, h3⟩ := h
  extract_lets d1
  split
  · split
    · exact ⟨(by decide : 1 ≤ (8 : BitVec 4).toNat ∧ (8 : BitVec 4).toNat ≤ 8), h3⟩
    · exact ⟨(by decide : 1 ≤ (8 : BitVec 4).toNat ∧ (8 : BitVec 4).toNat ≤ 8), h3⟩
  · rename_i hne
    refine ⟨?_, h3⟩
    have hne' : d.bitsLeft - 1 ≠ 0 := hne
    show 1 ≤ (d.bitsLeft - 1).toNat ∧ (d.bitsLeft - 1).toNat ≤ 8
    generalize d.bitsLeft = b at *
    revert b; decide

theorem Dmc.clockTimer_inv (d : Dmc) (h : DmcInv d) : DmcInv d.clockTimer := by
  unfold Dmc.clockTimer
  split
  · exact Dmc.outputClock_inv _ ⟨h.1, h.2⟩
  · exact ⟨h.1, h.2⟩

theorem Dmc.restart_inv (d : Dmc) (h : DmcInv d) : DmcInv d.restart := by
  refine ⟨h.1, fun _ => ?_⟩
  show 0x8000 ≤ (0xC000 + d.sampleAddrReg.setWidth 16 * 64 : Word).toNat
  generalize d.sampleAddrReg = r
  revert r; decide

theorem Dmc.nextAddr_le (d : Dmc) (h : 0x8000 ≤ d.curAddr.toNat) : 0x8000 ≤ d.nextAddr.toNat := by
  unfold Dmc.nextAddr
  split
  · decide
  · rename_i hne
    have h1 := d.curAddr.isLt
    have h2 : d.curAddr.toNat ≠ 0xFFFF := fun e => hne (BitVec.eq_of_toNat_eq (by simpa using e))
    bv_omega

theorem Dmc.read_inv (d : Dmc) (b : Byte) (h : DmcInv d) (hw : d.wantsByte = true) : DmcInv (d.read b) := by
  have hne : d.bytesLeft ≠ 0 := by
    simp only [Dmc.wantsByte, Bool.and_eq_true, bne_iff_ne, ne_eq] at hw; exact hw.2
  have hd1 : DmcInv { d with
      buffer := b, bufferFull := true, curAddr := d.nextAddr, bytesLeft := d.bytesLeft - 1 } :=
    ⟨h.1, fun _ => d.nextAddr_le (h.2 hne)⟩
  unfold Dmc.read
  extract_lets d1
  split
  · exact Dmc.restart_inv _ hd1
  · exact hd1

theorem Dmc.writeEnable_inv (d : Dmc) (on : Bool) (h : DmcInv d) : DmcInv (d.writeEnable on) := by
  unfold Dmc.writeEnable
  extract_lets d1
  split
  · exact ⟨h.1, fun hn => absurd rfl hn⟩
  · split
    · exact Dmc.restart_inv _ ⟨h.1, h.2⟩
    · exact ⟨h.1, h.2⟩

theorem Apu.Inv.dmc {u : Apu} (h : u.Inv) : DmcInv u.dmc := ⟨h.bitsLeft, h.curAddr⟩

/-- The invariant read field by field, for an update that leaves the frame counter and the samples alone. -/
theorem Apu.Inv.of_eq {u v : Apu} (h : u.Inv) (hl : v.noise.lfsr ≠ 0) (hd : DmcInv v.dmc)
    (h1 : v.fcCycles = u.fcCycles) (h2 : v.fcStep = u.fcStep) (h3 : v.fcMode = u.fcMode)
    (h4 : v.sampleAcc = u.sampleAcc) (h5 : v.samples = u.samples) : v.Inv where
  lfsr := hl
  fcCycles := by rw [h1]; exact h.fcCycles
  fcStep := by rw [h2, h3]; exact h.fcStep
  sampleAcc := by rw [h4]; exact h.sampleAcc
  samples := by rw [h5]; exact h.samples
  bitsLeft := hd.1
  curAddr := hd.2

theorem Apu.everyTimers_inv (u : Apu) (h : u.Inv) : u.everyTimers.Inv :=
  h.of_eq h.lfsr (u.dmc.clockTimer_inv h.dmc) rfl rfl rfl rfl rfl

theorem Apu.evenTimers_inv (u : Apu) (h : u.Inv) : u.evenTimers.Inv := by
  unfold Apu.evenTimers
  split
  · exact h.of_eq (u.noise.clockTimer_lfsr h.lfsr) h.dmc rfl rfl rfl rfl rfl
  · exact h

/-- What a frame-counter step leaves alone: everything the invariant speaks of, and the cycle count. -/
structure StepKept (u v : Apu) : Prop where
  lfsr : v.noise.lfsr = u.noise.lfsr
  dmc : v.dmc = u.dmc
  fcMode : v.fcMode = u.fcMode
  fcCycles : v.fcCycles = u.fcCycles
  fcStep : v.fcStep = u.fcStep
  sampleAcc : v.sampleAcc = u.sampleAcc
  samples : v.samples = u.samples
  apuCycle : v.apuCycle = u.apuCycle

theorem StepKept.refl (u : Apu) : StepKept u u := ⟨rfl, rfl, rfl, rfl, rfl, rfl, rfl, rfl⟩

theorem StepKept.trans {u v w : Apu} (h : StepKept u v) (k : StepKept v w) : StepKept u w :=
  ⟨k.1.trans h.1, k.2.trans h.2, k.3.trans h.3, k.4.trans h.4, k.5.trans h.5, k.6.trans h.6, k.7.trans h.7,
    k.8.trans h.8⟩

theorem Apu.quarterClock_kept (u : Apu) : StepKept u u.quarterClock := ⟨rfl, rfl, rfl, rfl, rfl, rfl, rfl, rfl⟩

theorem Apu.halfClock_kept (u : Apu) : StepKept u u.halfClock := ⟨rfl, rfl, rfl, rfl, rfl, rfl, rfl, rfl⟩

theorem Apu.frameStep_kept (u : Apu) (s : Nat) : StepKept u (u.frameStep s) := by
  unfold Apu.frameStep
  split
  · extract_lets u1
    have h1 : StepKept u u1 := by
      show StepKept u (if _ then _ else _)
      split
      · exact u.quarterClock_kept
      · exact .refl u
    split
    · exact h1.trans u1.halfClock_kept
    · exact h1
  · extract_lets u1 u2
    have h2 : StepKept u u2 := by
      show StepKept u (if _ then _ else _)
      split
      · exact u.quarterClock_kept.trans u1.halfClock_kept
      · exact u.quarterClock_kept
    split
    · exact h2.trans ⟨rfl, rfl, rfl, rfl, rfl, rfl, rfl, rfl⟩
    · exact h2

theorem Apu.Inv.kept {u v : Apu} (h : u.Inv) (k : StepKept u v) : v.Inv :=
  h.of_eq (by rw [k.lfsr]; exact h.lfsr) (by rw [k.dmc]; exact h.dmc) k.fcCycles k.fcStep k.fcMode k.sampleAcc
    k.samples

theorem Apu.frameCounterCycle_inv (u : Apu) (h : u.Inv) : u.frameCounterCycle.Inv := by
  unfold Apu.frameCounterCycle
  split
  · have k := u.frameStep_kept u.fcStep
    have h' := h.kept k
    refine ⟨h'.lfsr, Nat.zero_le _, ?_, h'.sampleAcc, h'.samples, h'.bitsLeft, h'.curAddr⟩
    show (u.fcStep + 1) % _ ≤ (if (u.frameStep u.fcStep).fcMode then 4 else 3)
    rw [k.fcMode]
    split <;> omega
  · rename_i hne
    have := h.fcCycles
    exact ⟨h.lfsr, by show u.fcCycles + 1 ≤ 7456; omega, h.fcStep, h.sampleAcc, h.samples, h.bitsLeft, h.curAddr⟩

theorem Apu.sampleCycle_inv (u : Apu) (h : u.Inv) : u.sampleCycle.Inv := by
  have h1 := h.sampleAcc
  have hl := h.lfsr
  have h2 := h.fcCycles
  have h3 := h.fcStep
  have h4 := h.samples
  have h5 := h.bitsLeft
  have h6 := h.curAddr
  unfold Apu.sampleCycle
  simp only
  split
  · refine Apu.Inv.mk ?_ ?_ ?_ ?_ ?_ ?_ ?_ <;> simp only <;> first | omega | (try assumption)
    split
    · rw [List.length_append, List.length_singleton]; omega
    · exact h4
  · refine Apu.Inv.mk ?_ ?_ ?_ ?_ ?_ ?_ ?_ <;> simp only <;> omega

theorem Apu.Inv.setApuCycle {u : Apu} (h : u.Inv) (n : Nat) : { u with apuCycle := n }.Inv :=
  ⟨h.lfsr, h.fcCycles, h.fcStep, h.sampleAcc, h.samples, h.bitsLeft, h.curAddr⟩

theorem Apu.finishCycle_inv (u : Apu) (h : u.Inv) : u.finishCycle.Inv :=
  (Apu.sampleCycle_inv _ (Apu.frameCounterCycle_inv _ (u.evenTimers_inv h))).setApuCycle _

theorem Apu.finishCycle_apuCycle (u : Apu) : u.finishCycle.apuCycle = u.apuCycle + 1 := by
  have h1 : u.evenTimers.apuCycle = u.apuCycle := by unfold Apu.evenTimers; split <;> rfl
  have h2 (v : Apu) : v.frameCounterCycle.apuCycle = v.apuCycle := by
    unfold Apu.frameCounterCycle
    split
    · exact (v.frameStep_kept v.fcStep).apuCycle
    · rfl
  have h3 (v : Apu) : v.sampleCycle.apuCycle = v.apuCycle := by
    unfold Apu.sampleCycle; extract_lets; split <;> rfl
  show (u.evenTimers.frameCounterCycle.sampleCycle).apuCycle + 1 = _
  rw [h3, h2, h1]

/-! ### One APU cycle of the machine -/

/-- One APU cycle counts one, keeps the APU's invariant, and touches nothing but the APU and the draw counter. -/
theorem State.apuTick_spec (s : State) :
    s.apuTick.apu.apuCycle = s.apu.apuCycle + 1 ∧ (s.apu.Inv → s.apuTick.apu.Inv) ∧ s.apuTick.cpu = s.cpu ∧
    s.apuTick.bus = { s.bus with draws := s.apuTick.bus.draws } ∧ s.apuTick.ppu = s.ppu ∧
    s.apuTick.cart = s.cart ∧ s.apuTick.settings = s.settings := by
  unfold State.apuTick
  extract_lets u
  split
  · rename_i hw
    split
    · refine ⟨Apu.finishCycle_apuCycle _, fun h => ?_, rfl, rfl, rfl, rfl, rfl⟩
      have hu := s.apu.everyTimers_inv h
      have hr := u.dmc.read_inv ‹_› hu.dmc hw
      exact Apu.finishCycle_inv _ (hu.of_eq hu.lfsr hr rfl rfl rfl rfl rfl)
    · refine ⟨Apu.finishCycle_apuCycle _, fun h => ?_, rfl, rfl, rfl, rfl, rfl⟩
      have hu := s.apu.everyTimers_inv h
      have hr := u.dmc.read_inv (Config.openBusValue s.bus.draws) hu.dmc hw
      exact Apu.finishCycle_inv _ (hu.of_eq hu.lfsr hr rfl rfl rfl rfl rfl)
  · exact ⟨Apu.finishCycle_apuCycle _, fun h => Apu.finishCycle_inv _ (s.apu.everyTimers_inv h), rfl, rfl, rfl, rfl, rfl⟩

/-- Under the invariant the DMC's reader never draws: the address it reads is mapped (R912, log 10). -/
theorem State.apuTick_bus (s : State) (h : s.apu.Inv) : s.apuTick.bus = s.bus := by
  unfold State.apuTick
  extract_lets u
  split
  · rename_i hw
    have hu : DmcInv u.dmc := (s.apu.everyTimers_inv h).dmc
    have hne : u.dmc.bytesLeft ≠ 0 := by
      simp only [Dmc.wantsByte, Bool.and_eq_true, bne_iff_ne, ne_eq] at hw; exact hw.2
    rw [Cart.cpuRead_rom _ (hu.2 hne)]
  · rfl

/-! ### Registers -/

theorem Apu.writeEnables_inv (u : Apu) (v : Byte) (h : u.Inv) : (u.writeEnables v).Inv :=
  h.of_eq h.lfsr (u.dmc.writeEnable_inv _ h.dmc) rfl rfl rfl rfl rfl

theorem Apu.writeFrameCounter_inv (u : Apu) (v : Byte) (h : u.Inv) : (u.writeFrameCounter v).Inv := by
  unfold Apu.writeFrameCounter
  extract_lets u1
  have h1 : u1.Inv := ⟨h.lfsr, Nat.zero_le _, Nat.zero_le _, h.sampleAcc, h.samples, h.bitsLeft, h.curAddr⟩
  split
  · exact h1.kept (u1.quarterClock_kept.trans (Apu.halfClock_kept _))
  · exact h1

/-- A register write keeps the APU's invariant, and does not count a cycle. -/
theorem Apu.write_inv (u : Apu) (r : Nat) (v : Byte) (h : u.Inv) : (u.write r v).Inv := by
  unfold Apu.write
  split
  case _ => exact h.of_eq h.lfsr h.dmc rfl rfl rfl rfl rfl
  case _ => exact h.of_eq h.lfsr h.dmc rfl rfl rfl rfl rfl
  case _ => exact h.of_eq h.lfsr h.dmc rfl rfl rfl rfl rfl
  case _ => exact h.of_eq h.lfsr h.dmc rfl rfl rfl rfl rfl
  case _ => exact h.of_eq h.lfsr h.dmc rfl rfl rfl rfl rfl
  case _ => exact h.of_eq h.lfsr h.dmc rfl rfl rfl rfl rfl
  case _ => exact h.of_eq h.lfsr h.dmc rfl rfl rfl rfl rfl
  case _ => exact h.of_eq h.lfsr h.dmc rfl rfl rfl rfl rfl
  case _ => exact h.of_eq h.lfsr h.dmc rfl rfl rfl rfl rfl
  case _ => exact h.of_eq h.lfsr h.dmc rfl rfl rfl rfl rfl
  case _ => exact h.of_eq h.lfsr h.dmc rfl rfl rfl rfl rfl
  case _ => exact h.of_eq h.lfsr h.dmc rfl rfl rfl rfl rfl
  case _ => exact h.of_eq h.lfsr h.dmc rfl rfl rfl rfl rfl
  case _ => exact h.of_eq h.lfsr h.dmc rfl rfl rfl rfl rfl
  case _ => exact h.of_eq h.lfsr ⟨h.bitsLeft, h.curAddr⟩ rfl rfl rfl rfl rfl
  case _ => exact h.of_eq h.lfsr ⟨h.bitsLeft, h.curAddr⟩ rfl rfl rfl rfl rfl
  case _ => exact h.of_eq h.lfsr ⟨h.bitsLeft, h.curAddr⟩ rfl rfl rfl rfl rfl
  case _ => exact h.of_eq h.lfsr ⟨h.bitsLeft, h.curAddr⟩ rfl rfl rfl rfl rfl
  case _ => exact u.writeEnables_inv v h
  case _ => exact u.writeFrameCounter_inv v h
  case _ => exact h

theorem Apu.write_apuCycle (u : Apu) (r : Nat) (v : Byte) : (u.write r v).apuCycle = u.apuCycle := by
  unfold Apu.write
  split <;> try rfl
  unfold Apu.writeFrameCounter
  extract_lets u1
  split <;> rfl

end Sys2Proof.Machine
end

