-- ==== Sys2Proof/Laws/Video.lean ====
section
/-! SUPPORT. What one dot of the PPU can do (spec 61 R750), and that it keeps the PPU's part of the invariant. -/

namespace Sys2Proof.Machine

/-- The cartridge but for the MMC3's A12 and counter fields. -/
def CartFrame (c d : Cart) : Prop :=
  d = { c with mmc3 := { c.mmc3 with
    irqCounter := d.mmc3.irqCounter
    irqReload := d.mmc3.irqReload
    irqPending := d.mmc3.irqPending
    a12Prev := d.mmc3.a12Prev
    a12LowSince := d.mmc3.a12LowSince } }

theorem CartFrame.refl (c : Cart) : CartFrame c c := rfl

theorem CartFrame.trans {c d e : Cart} (h : CartFrame c d) (k : CartFrame d e) : CartFrame c e := by
  unfold CartFrame at *; rw [k, h]

theorem CartFrame.prgRom {c d : Cart} (h : CartFrame c d) : d.prgRom = c.prgRom := by rw [h]
theorem CartFrame.prgRam {c d : Cart} (h : CartFrame c d) : d.prgRam = c.prgRam := by rw [h]
theorem CartFrame.chr {c d : Cart} (h : CartFrame c d) : d.chr = c.chr := by rw [h]
theorem CartFrame.chrIsRam {c d : Cart} (h : CartFrame c d) : d.chrIsRam = c.chrIsRam := by rw [h]
theorem CartFrame.prgBanks {c d : Cart} (h : CartFrame c d) : d.prgBanks = c.prgBanks := by rw [h]
theorem CartFrame.chrBanks {c d : Cart} (h : CartFrame c d) : d.chrBanks = c.chrBanks := by rw [h]
theorem CartFrame.attached {c d : Cart} (h : CartFrame c d) : d.attached = c.attached := by rw [h]

theorem CartFrame.inv {c d : Cart} (h : CartFrame c d) (i : c.Inv) : d.Inv where
  prgRom := by unfold Cart.prgSize; rw [h.prgRom, h.prgBanks]; exact i.prgRom
  chr := by unfold Cart.chrSize; rw [h.chr, h.chrIsRam, h.chrBanks]; exact i.chr
  prgRam := by rw [h.prgRam]; exact i.prgRam

/-- The part of the PPU that no dot changes: the registers software writes, and the memories but secondary OAM. -/
structure PpuKept (p q : Ppu) : Prop where
  ctrl : q.ctrl = p.ctrl
  mask : q.mask = p.mask
  oamAddr : q.oamAddr = p.oamAddr
  t : q.t = p.t
  fineX : q.fineX = p.fineX
  w : q.w = p.w
  readBuffer : q.readBuffer = p.readBuffer
  ntRam : q.ntRam = p.ntRam
  palette : q.palette = p.palette
  oam : q.oam = p.oam

theorem PpuKept.refl (p : Ppu) : PpuKept p p := ⟨rfl, rfl, rfl, rfl, rfl, rfl, rfl, rfl, rfl, rfl⟩

theorem PpuKept.trans {p q r : Ppu} (h : PpuKept p q) (k : PpuKept q r) : PpuKept p r :=
  ⟨k.ctrl.trans h.ctrl, k.mask.trans h.mask, k.oamAddr.trans h.oamAddr, k.t.trans h.t, k.fineX.trans h.fineX,
    k.w.trans h.w, k.readBuffer.trans h.readBuffer, k.ntRam.trans h.ntRam, k.palette.trans h.palette,
    k.oam.trans h.oam⟩

/-- The PPU's place in the frame, and what goes with it (R130). -/
structure PpuPlace (p q : Ppu) : Prop where
  scanline : q.scanline = p.scanline
  dot : q.dot = p.dot
  frame : q.frame = p.frame
  oddFrame : q.oddFrame = p.oddFrame
  frameReady : q.frameReady = p.frameReady

theorem PpuPlace.refl (p : Ppu) : PpuPlace p p := ⟨rfl, rfl, rfl, rfl, rfl⟩

theorem PpuPlace.trans {p q r : Ppu} (h : PpuPlace p q) (k : PpuPlace q r) : PpuPlace p r :=
  ⟨k.scanline.trans h.scanline, k.dot.trans h.dot, k.frame.trans h.frame, k.oddFrame.trans h.oddFrame,
    k.frameReady.trans h.frameReady⟩

/-- The sprite side of the invariant, and the framebuffer's. -/
structure SpriteInv (p : Ppu) : Prop where
  sprCount : p.sprCount ≤ 8
  slots : p.slots.length = 8
  oam2 : p.oam2.Holds 32
  framebuffer : p.framebuffer.Inv

/-- What a stage of a dot leaves alone and keeps. -/
structure DotFrame (b b' : Video) : Prop where
  kept : PpuKept b.ppu b'.ppu
  place : PpuPlace b.ppu b'.ppu
  cart : CartFrame b.cart b'.cart
  sprite : SpriteInv b.ppu → SpriteInv b'.ppu

theorem DotFrame.refl (b : Video) : DotFrame b b := ⟨.refl _, .refl _, .refl _, id⟩

theorem DotFrame.trans {a b c : Video} (h : DotFrame a b) (k : DotFrame b c) : DotFrame a c :=
  ⟨h.kept.trans k.kept, h.place.trans k.place, h.cart.trans k.cart, fun i => k.sprite (h.sprite i)⟩

@[simp] theorem Video.read_ppu (b : Video) (a : PpuAddr) : (b.read a).2.ppu = b.ppu := rfl

theorem Video.read_cart (b : Video) (a : PpuAddr) : CartFrame b.cart (b.read a).2.cart :=
  Cart.notify_frame b.cart b.settings.a12FilterDots a b.ppu.notifyTime

theorem Video.read_dotFrame (b : Video) (a : PpuAddr) : DotFrame b (b.read a).2 :=
  ⟨.refl _, .refl _, b.read_cart a, id⟩

/-- A stage that only changes PPU fields outside the kept part, the place and the sprite side. -/
theorem DotFrame.ofPpu {b : Video} {p : Ppu} (k : PpuKept b.ppu p) (l : PpuPlace b.ppu p)
    (i : SpriteInv b.ppu → SpriteInv p) : DotFrame b { b with ppu := p } := ⟨k, l, .refl _, i⟩

theorem Video.backgroundFetch_dotFrame (b : Video) (k : Nat) : DotFrame b (b.backgroundFetch k) := by
  unfold Video.backgroundFetch
  split
  · exact (b.read_dotFrame _).trans (.ofPpu ⟨rfl, rfl, rfl, rfl, rfl, rfl, rfl, rfl, rfl, rfl⟩ ⟨rfl, rfl, rfl, rfl, rfl⟩
      fun i => ⟨i.1, i.2, i.3, i.4⟩)
  · exact (b.read_dotFrame _).trans (.ofPpu ⟨rfl, rfl, rfl, rfl, rfl, rfl, rfl, rfl, rfl, rfl⟩ ⟨rfl, rfl, rfl, rfl, rfl⟩
      fun i => ⟨i.1, i.2, i.3, i.4⟩)
  · exact (b.read_dotFrame _).trans (.ofPpu ⟨rfl, rfl, rfl, rfl, rfl, rfl, rfl, rfl, rfl, rfl⟩ ⟨rfl, rfl, rfl, rfl, rfl⟩
      fun i => ⟨i.1, i.2, i.3, i.4⟩)
  · exact (b.read_dotFrame _).trans (.ofPpu ⟨rfl, rfl, rfl, rfl, rfl, rfl, rfl, rfl, rfl, rfl⟩ ⟨rfl, rfl, rfl, rfl, rfl⟩
      fun i => ⟨i.1, i.2, i.3, i.4⟩)
  · exact .ofPpu ⟨rfl, rfl, rfl, rfl, rfl, rfl, rfl, rfl, rfl, rfl⟩ ⟨rfl, rfl, rfl, rfl, rfl⟩
      fun i => ⟨i.1, i.2, i.3, i.4⟩
  · exact .refl b

theorem Video.backgroundDot_dotFrame (b : Video) : DotFrame b b.backgroundDot := by
  unfold Video.backgroundDot
  extract_lets dot b1 b2
  have h1 : DotFrame b b1 := by
    show DotFrame b (if _ then _ else _)
    split
    · exact (DotFrame.ofPpu (b := b) (p := b.ppu.shiftBackground)
        ⟨rfl, rfl, rfl, rfl, rfl, rfl, rfl, rfl, rfl, rfl⟩ ⟨rfl, rfl, rfl, rfl, rfl⟩
        fun i => ⟨i.1, i.2, i.3, i.4⟩).trans (Video.backgroundFetch_dotFrame _ _)
    · exact .refl b
  have h2 : DotFrame b1 b2 :=
    .ofPpu ⟨rfl, rfl, rfl, rfl, rfl, rfl, rfl, rfl, rfl, rfl⟩ ⟨rfl, rfl, rfl, rfl, rfl⟩ fun i => ⟨i.1, i.2, i.3, i.4⟩
  split
  · exact (h1.trans h2).trans (b2.read_dotFrame _)
  · exact h1.trans h2

theorem Ppu.fillSlots_length (p : Ppu) (line : Nat) (is : List Nat) (ss : List SpriteSlot) :
    (p.fillSlots line is ss).length = ss.length := by
  induction is generalizing ss with
  | nil => simp [Ppu.fillSlots]
  | cons i is ih =>
    cases ss with
    | nil => simp [Ppu.fillSlots]
    | cons s ss => simp [Ppu.fillSlots, ih]

theorem Ppu.secondaryOam_length (p : Ppu) {sel : List Nat} (h : sel.length ≤ 8) :
    (p.secondaryOam sel).length = 32 := by
  have : (sel.flatMap fun i => [p.oamByte i 0, p.oamByte i 1, p.oamByte i 2, p.oamByte i 3]).length =
      4 * sel.length := by
    induction sel with
    | nil => rfl
    | cons x xs ih =>
      have := ih (by simp only [List.length_cons] at h; omega)
      simp only [List.flatMap_cons, List.length_append, List.length_cons, List.length_nil, this]
      omega
  simp only [Ppu.secondaryOam, List.length_append, List.length_replicate, this]
  omega

theorem Ppu.evaluateSprites_sprite (p : Ppu) (line : Nat) (i : SpriteInv p) : SpriteInv (p.evaluateSprites line) where
  sprCount := by simp only [Ppu.evaluateSprites, List.length_take]; omega
  slots := by simp only [Ppu.evaluateSprites, Ppu.fillSlots_length]; exact i.slots
  oam2 := by
    have : ((p.spriteCandidates line).take 8).length ≤ 8 := by simp only [List.length_take]; omega
    exact ⟨Memory.wf_ofBytes _ _, Memory.below_ofBytes _ (by rw [p.secondaryOam_length this])⟩
  framebuffer := i.framebuffer

theorem Video.fetchSpriteLo_dotFrame (b : Video) (i : Nat) : DotFrame b (b.fetchSpriteLo i) :=
  (b.read_dotFrame _).trans (.ofPpu ⟨rfl, rfl, rfl, rfl, rfl, rfl, rfl, rfl, rfl, rfl⟩ ⟨rfl, rfl, rfl, rfl, rfl⟩
    fun i => ⟨i.1, by simp only [List.length_set]; exact i.2, i.3, i.4⟩)

theorem Video.fetchSpriteHi_dotFrame (b : Video) (i : Nat) : DotFrame b (b.fetchSpriteHi i) :=
  (b.read_dotFrame _).trans (.ofPpu ⟨rfl, rfl, rfl, rfl, rfl, rfl, rfl, rfl, rfl, rfl⟩ ⟨rfl, rfl, rfl, rfl, rfl⟩
    fun i => ⟨i.1, by simp only [List.length_set]; exact i.2, i.3, i.4⟩)

theorem Video.spriteFetch_dotFrame (b : Video) (i j : Nat) : DotFrame b (b.spriteFetch i j) := by
  unfold Video.spriteFetch
  split
  · exact b.read_dotFrame _
  · exact b.read_dotFrame _
  · exact b.fetchSpriteLo_dotFrame i
  · exact b.fetchSpriteHi_dotFrame i
  · exact .refl b

theorem Video.spriteDot_dotFrame (b : Video) : DotFrame b b.spriteDot := by
  unfold Video.spriteDot
  extract_lets dot src b1
  have h1 : DotFrame b b1 := by
    show DotFrame b (if _ then _ else _)
    split
    · exact .ofPpu ⟨rfl, rfl, rfl, rfl, rfl, rfl, rfl, rfl, rfl, rfl⟩ ⟨rfl, rfl, rfl, rfl, rfl⟩
        (b.ppu.evaluateSprites_sprite _)
    · split
      · exact .ofPpu ⟨rfl, rfl, rfl, rfl, rfl, rfl, rfl, rfl, rfl, rfl⟩ ⟨rfl, rfl, rfl, rfl, rfl⟩
          fun i => ⟨by simp, i.2, i.3, i.4⟩
      · exact .refl b
  split
  · exact h1.trans (b1.spriteFetch_dotFrame _ _)
  · exact h1

theorem Video.renderStep_dotFrame (b : Video) : DotFrame b b.renderStep := by
  unfold Video.renderStep
  split
  · exact b.backgroundDot_dotFrame.trans (Video.spriteDot_dotFrame _)
  · exact .refl b

theorem Framebuffer.Inv.set {f : Framebuffer} (h : f.Inv) {y x : Nat} (hy : y ≤ 239) (hx : x ≤ 255) (p : BitVec 32) :
    (f.set y x p).Inv := by
  have hrow : ((assocGet y f).getD []).Pairwise (fun p q => p.1 < q.1) ∧
      ∀ p ∈ (assocGet y f).getD [], p.1 ≤ 255 := by
    have hr := h.rows
    clear h
    induction f with
    | nil => simp [assocGet]
    | cons c f ih =>
      obtain ⟨j, w⟩ := c
      simp only [assocGet]
      split
      · exact (hr (j, w) (by simp)).2
      · exact ih fun c hc => hr c (by simp [hc])
  refine ⟨pairwise_assocPut _ _ h.rising, fun c hc => ?_⟩
  rcases mem_assocPut hc with hc | hc
  · subst hc
    refine ⟨hy, pairwise_assocPut _ _ hrow.1, fun q hq => ?_⟩
    rcases mem_assocPut hq with hq | hq
    · subst hq; exact hx
    · exact hrow.2 q hq
  · exact h.rows c hc

theorem Video.pixelStep_dotFrame (b : Video) : DotFrame b { b with ppu := b.ppu.pixelStep } := by
  unfold Ppu.pixelStep
  split
  · rename_i h
    exact .ofPpu ⟨rfl, rfl, rfl, rfl, rfl, rfl, rfl, rfl, rfl, rfl⟩ ⟨rfl, rfl, rfl, rfl, rfl⟩
      fun i => ⟨i.1, i.2, i.3, i.4.set h.1 (by omega) _⟩
  · exact .refl b

theorem Video.updateStatus_dotFrame (b : Video) : DotFrame b { b with ppu := b.ppu.updateStatus } := by
  unfold Ppu.updateStatus
  split
  · exact .ofPpu ⟨rfl, rfl, rfl, rfl, rfl, rfl, rfl, rfl, rfl, rfl⟩ ⟨rfl, rfl, rfl, rfl, rfl⟩
      fun i => ⟨i.1, i.2, i.3, i.4⟩
  · split
    · exact .ofPpu ⟨rfl, rfl, rfl, rfl, rfl, rfl, rfl, rfl, rfl, rfl⟩ ⟨rfl, rfl, rfl, rfl, rfl⟩
        fun i => ⟨i.1, i.2, i.3, i.4⟩
    · exact .refl b

/-- What `Advance` does to the place (R865): it depends on the place and on whether rendering is enabled. -/
theorem Ppu.advance_kept (p : Ppu) : PpuKept p p.advance ∧ (SpriteInv p → SpriteInv p.advance) := by
  unfold Ppu.advance
  extract_lets skip dot
  split
  · exact ⟨⟨rfl, rfl, rfl, rfl, rfl, rfl, rfl, rfl, rfl, rfl⟩, fun i => ⟨i.1, i.2, i.3, i.4⟩⟩
  · split
    · exact ⟨⟨rfl, rfl, rfl, rfl, rfl, rfl, rfl, rfl, rfl, rfl⟩, fun i => ⟨i.1, i.2, i.3, i.4⟩⟩
    · exact ⟨⟨rfl, rfl, rfl, rfl, rfl, rfl, rfl, rfl, rfl, rfl⟩, fun i => ⟨i.1, i.2, i.3, i.4⟩⟩

/-- The PPU before the place advances: everything a dot does but `Advance`. -/
def Video.dotWork (b : Video) : Video :=
  let b1 := { b with ppu := b.ppu.pixelStep }.renderStep
  { b1 with ppu := b1.ppu.updateStatus }

theorem Video.tick_eq (b : Video) : b.tick = { b.dotWork with ppu := b.dotWork.ppu.advance } := rfl

theorem Video.dotWork_dotFrame (b : Video) : DotFrame b b.dotWork :=
  (b.pixelStep_dotFrame.trans (Video.renderStep_dotFrame _)).trans (Video.updateStatus_dotFrame _)

/-- The place after one dot (R865), from the place before it and the rendering bits of PPUMASK. -/
theorem Video.tick_place (b : Video) :
    let skip := b.ppu.scanline = 261 ∧ b.ppu.dot = 339 ∧ b.ppu.oddFrame ∧ b.ppu.renderingEnabled
    let dot := (if skip then 340 else b.ppu.dot) + 1
    let last := 340 < dot ∧ 261 < b.ppu.scanline + 1
    b.tick.ppu.dot = (if dot ≤ 340 then dot else 0) ∧
    b.tick.ppu.scanline = (if dot ≤ 340 then b.ppu.scanline else if b.ppu.scanline + 1 ≤ 261 then b.ppu.scanline + 1
      else 0) ∧
    b.tick.ppu.frame = b.ppu.frame + (if last then 1 else 0) ∧
    b.tick.ppu.oddFrame = (if last then !b.ppu.oddFrame else b.ppu.oddFrame) ∧
    b.tick.ppu.frameReady = (if last then true else b.ppu.frameReady) := by
  have h := b.dotWork_dotFrame
  have hm : b.dotWork.ppu.renderingEnabled = b.ppu.renderingEnabled := by
    unfold Ppu.renderingEnabled; rw [h.kept.mask]
  rw [Video.tick_eq]
  unfold Ppu.advance
  simp only [h.place.scanline, h.place.dot, h.place.oddFrame, hm]
  generalize (if b.ppu.scanline = 261 ∧ b.ppu.dot = 339 ∧ b.ppu.oddFrame = true ∧ b.ppu.renderingEnabled = true then
    340 else b.ppu.dot) + 1 = dot
  by_cases hd : dot ≤ 340
  · simp [h.place.frame, h.place.frameReady, Nat.not_lt.2 hd, hd]
  · by_cases hs : b.ppu.scanline + 1 ≤ 261
    · simp [h.place.frame, h.place.frameReady, Nat.not_lt.2 hs, hd, hs]
    · simp [h.place.frame, Nat.lt_of_not_le hd, Nat.lt_of_not_le hs, hd, hs]

theorem Video.tick_kept (b : Video) : PpuKept b.ppu b.tick.ppu :=
  b.dotWork_dotFrame.kept.trans b.dotWork.ppu.advance_kept.1

theorem Video.tick_cart (b : Video) : CartFrame b.cart b.tick.cart := b.dotWork_dotFrame.cart

/-- One dot keeps the PPU's invariant. -/
theorem Video.tick_inv (b : Video) (h : b.ppu.Inv) : b.tick.ppu.Inv := by
  have hs := b.dotWork.ppu.advance_kept.2 (b.dotWork_dotFrame.sprite ⟨h.sprCount, h.slots, h.oam2, h.framebuffer⟩)
  have hk := b.tick_kept
  have hp := b.tick_place
  simp only at hp
  have h1 := h.scanline
  have h2 := h.dot
  exact
    { scanline := by rw [hp.2.1]; split_ifs <;> omega
      dot := by rw [hp.1]; split_ifs <;> omega
      sprCount := hs.1
      slots := hs.2
      ntRam := by rw [hk.ntRam]; exact h.ntRam
      palette := by rw [hk.palette]; exact h.palette
      oam := by rw [hk.oam]; exact h.oam
      oam2 := hs.3
      framebuffer := hs.4 }

end Sys2Proof.Machine
end

