-- ==== Sys2Proof/Laws/Clock.lean ====
section
/-! SUPPORT. What ticking the machine can do (spec 00 R9, R30). -/

namespace Sys2Proof.Machine

/-- Everything `n` ticks leave alone, keep or count. -/
structure TickFrame (n : Nat) (s t : State) : Prop where
  cpu : t.cpu = { s.cpu with nmiPending := t.cpu.nmiPending }
  nmi : s.cpu.nmiPending = true → t.cpu.nmiPending = true
  bus : t.bus = { s.bus with draws := t.bus.draws }
  kept : PpuKept s.ppu t.ppu
  cart : CartFrame s.cart t.cart
  settings : t.settings = s.settings
  apuCycle : t.apu.apuCycle = s.apu.apuCycle + n
  apuInv : s.apu.Inv → t.apu.Inv
  ppuInv : s.ppu.Inv → t.ppu.Inv
  frame : s.ppu.frame ≤ t.ppu.frame
  position : s.ppu.Inv → ∃ skipped ≤ t.ppu.frame - s.ppu.frame,
    t.ppu.position = s.ppu.position + 3 * n + skipped

theorem TickFrame.refl (s : State) : TickFrame 0 s s :=
  ⟨rfl, id, rfl, .refl _, .refl _, rfl, rfl, id, id, Nat.le_refl _, fun _ => ⟨0, Nat.zero_le _, by simp⟩⟩

theorem TickFrame.trans {m n : Nat} {s t u : State} (h : TickFrame m s t) (k : TickFrame n t u) :
    TickFrame (m + n) s u where
  cpu := by rw [k.cpu, h.cpu]
  nmi := fun e => k.nmi (h.nmi e)
  bus := by rw [k.bus, h.bus]
  kept := h.kept.trans k.kept
  cart := h.cart.trans k.cart
  settings := k.settings.trans h.settings
  apuCycle := by rw [k.apuCycle, h.apuCycle]; omega
  apuInv := fun i => k.apuInv (h.apuInv i)
  ppuInv := fun i => k.ppuInv (h.ppuInv i)
  frame := Nat.le_trans h.frame k.frame
  position := fun i => by
    obtain ⟨a, ha, ha'⟩ := h.position i
    obtain ⟨b, hb, hb'⟩ := k.position (h.ppuInv i)
    have := h.frame
    have := k.frame
    exact ⟨a + b, by omega, by omega⟩

/-- One dot moves the place by one, or by two where it skips a dot and ends the frame. -/
theorem Video.tick_position (b : Video) (h : b.ppu.Inv) :
    b.ppu.frame ≤ b.tick.ppu.frame ∧ ∃ skipped ≤ b.tick.ppu.frame - b.ppu.frame,
      b.tick.ppu.position = b.ppu.position + 1 + skipped := by
  have hp := b.tick_place
  have h1 := h.scanline
  have h2 := h.dot
  simp only at hp
  unfold Ppu.position
  rw [hp.1, hp.2.1, hp.2.2.1]
  clear hp
  by_cases hs : b.ppu.scanline = 261 ∧ b.ppu.dot = 339 ∧ b.ppu.oddFrame = true ∧ b.ppu.renderingEnabled = true
  · obtain ⟨e1, e2, -⟩ := id hs
    simp only [if_pos hs]
    rw [e1, e2]
    norm_num
    exact ⟨1, by omega, by omega⟩
  · simp only [hs, if_false]
    by_cases hd : b.ppu.dot + 1 ≤ 340
    · refine ⟨by omega, 0, Nat.zero_le _, ?_⟩
      simp only [hd, if_true, show ¬ (340 < b.ppu.dot + 1 ∧ 261 < b.ppu.scanline + 1) by omega, if_false]
      omega
    · refine ⟨by omega, 0, Nat.zero_le _, ?_⟩
      by_cases hl : b.ppu.scanline + 1 ≤ 261
      · simp only [hd, hl, if_true, if_false, show ¬ (340 < b.ppu.dot + 1 ∧ 261 < b.ppu.scanline + 1) by omega]
        omega
      · simp only [hd, hl, if_true, if_false, show (340 < b.ppu.dot + 1 ∧ 261 < b.ppu.scanline + 1) by omega,
          and_self]
        omega

theorem Video.tick_frame (b : Video) : b.ppu.frame ≤ b.tick.ppu.frame := by
  have hp := b.tick_place
  simp only at hp
  rw [hp.2.2.1]; omega

/-- What one dot does to the machine. -/
structure DotState (s t : State) : Prop where
  cpu : t.cpu = { s.cpu with nmiPending := t.cpu.nmiPending }
  nmi : s.cpu.nmiPending = true → t.cpu.nmiPending = true
  bus : t.bus = s.bus
  kept : PpuKept s.ppu t.ppu
  cart : CartFrame s.cart t.cart
  apu : t.apu = s.apu
  settings : t.settings = s.settings
  ppuInv : s.ppu.Inv → t.ppu.Inv
  frame : s.ppu.frame ≤ t.ppu.frame
  position : s.ppu.Inv → ∃ skipped ≤ t.ppu.frame - s.ppu.frame, t.ppu.position = s.ppu.position + 1 + skipped

theorem State.ppuTick_spec (s : State) : DotState s s.ppuTick where
  cpu := rfl
  nmi := fun e => by simp only [State.ppuTick, e, Bool.true_or]
  bus := rfl
  kept := Video.tick_kept ⟨s.ppu, s.cart, s.settings⟩
  cart := Video.tick_cart ⟨s.ppu, s.cart, s.settings⟩
  apu := rfl
  settings := rfl
  ppuInv := Video.tick_inv ⟨s.ppu, s.cart, s.settings⟩
  frame := Video.tick_frame ⟨s.ppu, s.cart, s.settings⟩
  position := fun i => (Video.tick_position ⟨s.ppu, s.cart, s.settings⟩ i).2

/-- What one CPU cycle does: three dots, then one APU cycle (R30). -/
theorem State.tickCycle_spec (s : State) : TickFrame 1 s s.tickCycle := by
  have h1 := s.ppuTick_spec
  have h2 := s.ppuTick.ppuTick_spec
  have h3 := s.ppuTick.ppuTick.ppuTick_spec
  have ha := s.ppuTick.ppuTick.ppuTick.apuTick_spec
  unfold State.tickCycle
  generalize s.ppuTick = a at *
  generalize a.ppuTick = b at *
  generalize b.ppuTick = c at *
  obtain ⟨ha1, ha2, ha3, ha4, ha5, ha6, ha7⟩ := ha
  exact
    { cpu := by rw [ha3, h3.cpu, h2.cpu, h1.cpu]
      nmi := fun e => by rw [ha3]; exact h3.nmi (h2.nmi (h1.nmi e))
      bus := by rw [ha4, h3.bus, h2.bus, h1.bus]
      kept := by rw [ha5]; exact (h1.kept.trans h2.kept).trans h3.kept
      cart := by rw [ha6]; exact (h1.cart.trans h2.cart).trans h3.cart
      settings := by rw [ha7, h3.settings, h2.settings, h1.settings]
      apuCycle := by rw [ha1, h3.apu, h2.apu, h1.apu]
      apuInv := fun i => ha2 (by rw [h3.apu, h2.apu, h1.apu]; exact i)
      ppuInv := fun i => by rw [ha5]; exact h3.ppuInv (h2.ppuInv (h1.ppuInv i))
      frame := by rw [ha5]; exact Nat.le_trans h1.frame (Nat.le_trans h2.frame h3.frame)
      position := fun i => by
        obtain ⟨x, hx, hx'⟩ := h1.position i
        obtain ⟨y, hy, hy'⟩ := h2.position (h1.ppuInv i)
        obtain ⟨z, hz, hz'⟩ := h3.position (h2.ppuInv (h1.ppuInv i))
        have := h1.frame
        have := h2.frame
        have := h3.frame
        rw [ha5]
        exact ⟨x + y + z, by omega, by omega⟩ }

/-- What `n` CPU cycles do. -/
theorem State.tick_spec (n : Nat) (s : State) : TickFrame n s (s.tick n) := by
  induction n generalizing s with
  | zero => exact .refl s
  | succ n ih =>
    have := (s.tickCycle_spec).trans (ih s.tickCycle)
    rwa [Nat.add_comm] at this

end Sys2Proof.Machine
end

