-- ==== Sys2Proof/Laws/Access.lean ====
section
/-! SUPPORT. What bus accesses and register updates, as many as there may be, keep and leave alone as long as the clock
does not tick: the parts of the invariant, the PPU's place, the APU's cycle count, ROM and the cartridge's header. -/

namespace Sys2Proof.Machine

/-- The invariant but for the clock. -/
structure State.Parts (s : State) : Prop where
  ram : s.bus.ram.Holds 2048
  ppu : s.ppu.Inv
  apu : s.apu.Inv
  cart : s.cart.Inv

theorem State.Inv.parts {s : State} (h : s.Inv) : s.Parts := ⟨h.ram, h.ppu, h.apu, h.cart⟩

theorem State.Parts.inv {s : State} (h : s.Parts) (hc : s.apu.apuCycle = s.cpu.cycles) : s.Inv :=
  ⟨h.ram, h.ppu, h.apu, h.cart, hc⟩

/-- What the cartridge keeps whatever the machine does: PRG-ROM, CHR-ROM and the header (R160, R211). -/
structure CartKept (c d : Cart) : Prop where
  attached : d.attached = c.attached
  prgBanks : d.prgBanks = c.prgBanks
  prgRom : d.prgRom = c.prgRom
  chrBanks : d.chrBanks = c.chrBanks
  chrIsRam : d.chrIsRam = c.chrIsRam
  chrRom : c.chrIsRam = false → d.chr = c.chr
  mirroring : d.mirroring = c.mirroring
  mapperId : d.mapperId = c.mapperId
  battery : d.battery = c.battery

theorem CartKept.refl (c : Cart) : CartKept c c := ⟨rfl, rfl, rfl, rfl, rfl, fun _ => rfl, rfl, rfl, rfl⟩

theorem CartKept.trans {c d e : Cart} (h : CartKept c d) (k : CartKept d e) : CartKept c e :=
  ⟨k.1.trans h.1, k.2.trans h.2, k.3.trans h.3, k.4.trans h.4, k.5.trans h.5,
    fun i => (k.6 (h.5.trans i)).trans (h.6 i), k.7.trans h.7, k.8.trans h.8, k.9.trans h.9⟩

theorem CartFrame.cartKept {c d : Cart} (h : CartFrame c d) : CartKept c d :=
  ⟨by rw [h], by rw [h], by rw [h], by rw [h], by rw [h], fun _ => by rw [h], by rw [h], by rw [h], by rw [h]⟩

/-- What accesses and register updates keep. -/
structure Quiet (s t : State) : Prop where
  parts : s.Parts → t.Parts
  place : PpuPlace s.ppu t.ppu
  apuCycle : t.apu.apuCycle = s.apu.apuCycle
  cart : CartKept s.cart t.cart
  refused : t.cpu.refused = s.cpu.refused
  cycles : s.cpu.cycles ≤ t.cpu.cycles
  inputs : t.bus.input0 = s.bus.input0 ∧ t.bus.input1 = s.bus.input1 ∧ t.bus.openBus = s.bus.openBus
  samples : t.apu.samples = s.apu.samples
  framebuffer : t.ppu.framebuffer = s.ppu.framebuffer
  settings : t.settings = s.settings

theorem Quiet.refl (s : State) : Quiet s s :=
  ⟨id, .refl _, rfl, .refl _, rfl, Nat.le_refl _, ⟨rfl, rfl, rfl⟩, rfl, rfl, rfl⟩

theorem Quiet.trans {s t u : State} (h : Quiet s t) (k : Quiet t u) : Quiet s u :=
  ⟨fun i => k.parts (h.parts i), h.place.trans k.place, k.apuCycle.trans h.apuCycle, h.cart.trans k.cart,
    k.refused.trans h.refused, Nat.le_trans h.cycles k.cycles,
    ⟨k.inputs.1.trans h.inputs.1, k.inputs.2.1.trans h.inputs.2.1, k.inputs.2.2.trans h.inputs.2.2⟩,
    k.samples.trans h.samples, k.framebuffer.trans h.framebuffer, k.settings.trans h.settings⟩

/-- An update of CPU registers alone. -/
theorem Quiet.ofCpu (s : State) {c : Cpu} (hr : c.refused = s.cpu.refused) (hc : s.cpu.cycles ≤ c.cycles) :
    Quiet s { s with cpu := c } :=
  ⟨fun i => ⟨i.1, i.2, i.3, i.4⟩, .refl _, rfl, .refl _, hr, hc, ⟨rfl, rfl, rfl⟩, rfl, rfl, rfl⟩

theorem State.setA_quiet (s : State) (v : Byte) : Quiet s (s.setA v) := .ofCpu s rfl (Nat.le_refl _)
theorem State.setX_quiet (s : State) (v : Byte) : Quiet s (s.setX v) := .ofCpu s rfl (Nat.le_refl _)
theorem State.setY_quiet (s : State) (v : Byte) : Quiet s (s.setY v) := .ofCpu s rfl (Nat.le_refl _)
theorem State.setSp_quiet (s : State) (v : Byte) : Quiet s (s.setSp v) := .ofCpu s rfl (Nat.le_refl _)
theorem State.setPc_quiet (s : State) (v : Word) : Quiet s (s.setPc v) := .ofCpu s rfl (Nat.le_refl _)
theorem State.setFlags_quiet (s : State) (v : Flags) : Quiet s (s.setFlags v) := .ofCpu s rfl (Nat.le_refl _)
theorem State.setZN_quiet (s : State) (v : Byte) : Quiet s (s.setZN v) := .ofCpu s rfl (Nat.le_refl _)
theorem State.addCycles_quiet (s : State) (n : Nat) : Quiet s (s.addCycles n) := .ofCpu s rfl (Nat.le_add_right ..)
theorem State.clearNmi_quiet (s : State) : Quiet s s.clearNmi := .ofCpu s rfl (Nat.le_refl _)

/-- The APU's invariant does not speak of the frame IRQ. -/
theorem Apu.Inv.setFrameIrq {u : Apu} (h : u.Inv) (f : Bool) : { u with frameIrq := f }.Inv :=
  ⟨h.lfsr, h.fcCycles, h.fcStep, h.sampleAcc, h.samples, h.bitsLeft, h.curAddr⟩

/-- A state reached by bus reads. -/
theorem ReadFrame.quiet {s t : State} (h : ReadFrame s t) : Quiet s t where
  parts := fun i =>
    { ram := by rw [h.ram]; exact i.ram
      ppu := by
        rw [h.ppu]
        exact ⟨i.ppu.1, i.ppu.2, i.ppu.3, i.ppu.4, i.ppu.5, i.ppu.6, i.ppu.7, i.ppu.8, i.ppu.9⟩
      apu := by rw [h.apu]; exact i.apu.setFrameIrq _
      cart := CartFrame.inv h.cart i.cart }
  place := by rw [h.ppu]; exact ⟨rfl, rfl, rfl, rfl, rfl⟩
  apuCycle := by rw [h.apu]
  cart := CartFrame.cartKept h.cart
  refused := by rw [h.cpu]
  cycles := by rw [h.cpu]
  inputs := by rw [h.bus]; exact ⟨rfl, rfl, rfl⟩
  samples := by rw [h.apu]
  framebuffer := by rw [h.ppu]
  settings := h.settings

theorem State.read_quiet (s : State) (a : Word) : Quiet s (s.read a).2 := (s.read_frame a).quiet

theorem Memory.Holds.set {m : Memory} {size a : Nat} (h : m.Holds size) (ha : a < size) (v : Byte) :
    (m.set a v).Holds size := ⟨Memory.wf_set h.wf a v, Memory.below_set h.below ha v⟩

/-! ### Writes of the PPU's space -/

theorem nametableIndex_lt (m : Mirroring) (a : PpuAddr) : nametableIndex m a < 2048 := by
  unfold nametableIndex
  cases m <;> simp only <;> omega

theorem paletteIndex_lt (a : PpuAddr) : paletteIndex a < 32 := by
  unfold paletteIndex
  simp only
  split <;> omega

theorem Cart.chrIndex_lt (c : Cart) (a : PpuAddr) (hr : c.chrIsRam = true) (ha : a.toNat < 0x2000) :
    c.chrIndex a < c.chrSize := by
  have hs : c.chrSize = 8192 := by simp only [Cart.chrSize, hr, if_true]
  unfold Cart.chrIndex
  rw [hs]
  simp only
  split <;> omega

/-- A PPU-space write keeps the memories' part of the invariant, and touches only memories (R250). -/
theorem Video.write_spec (b : Video) (a : PpuAddr) (v : Byte) :
    CartKept b.cart (b.write a v).cart ∧ (b.cart.Inv → (b.write a v).cart.Inv) ∧
    (b.write a v).ppu = { b.ppu with ntRam := (b.write a v).ppu.ntRam, palette := (b.write a v).ppu.palette } ∧
    (b.ppu.Inv → (b.write a v).ppu.Inv) := by
  have hn : CartFrame b.cart (b.notify a).cart := Cart.notify_frame _ _ _ _
  have hp : (b.notify a).ppu = b.ppu := rfl
  unfold Video.write
  simp only
  split
  · rename_i ha
    refine ⟨?_, fun i => ?_, rfl, id⟩
    · refine hn.cartKept.trans ?_
      unfold Cart.chrWrite
      split
      · rename_i hr
        exact ⟨rfl, rfl, rfl, rfl, rfl, fun e => absurd (hr.symm.trans e) (by simp), rfl, rfl, rfl⟩
      · exact .refl _
    · have i' := hn.inv i
      unfold Cart.chrWrite
      split
      · rename_i hr
        exact ⟨i'.prgRom, i'.chr.set (Cart.chrIndex_lt _ a hr ha) v, i'.prgRam⟩
      · exact i'
  · split
    · exact ⟨hn.cartKept, hn.inv, rfl, fun i =>
        ⟨i.1, i.2, i.3, i.4, i.ntRam.set (nametableIndex_lt _ _) v, i.6, i.7, i.8, i.9⟩⟩
    · exact ⟨hn.cartKept, hn.inv, rfl, fun i =>
        ⟨i.1, i.2, i.3, i.4, i.5, i.palette.set (paletteIndex_lt _) v, i.7, i.8, i.9⟩⟩

theorem State.writePpuReg_quiet (s : State) (r : Nat) (v : Byte) : Quiet s (s.writePpuReg r v) := by
  unfold State.writePpuReg
  split
  · exact ⟨fun i => ⟨i.1, ⟨i.2.1, i.2.2, i.2.3, i.2.4, i.2.5, i.2.6, i.2.7, i.2.8, i.2.9⟩, i.3, i.4⟩,
      ⟨rfl, rfl, rfl, rfl, rfl⟩, rfl, .refl _, rfl, Nat.le_refl _, ⟨rfl, rfl, rfl⟩, rfl, rfl, rfl⟩
  · exact ⟨fun i => ⟨i.1, ⟨i.2.1, i.2.2, i.2.3, i.2.4, i.2.5, i.2.6, i.2.7, i.2.8, i.2.9⟩, i.3, i.4⟩,
      ⟨rfl, rfl, rfl, rfl, rfl⟩, rfl, .refl _, rfl, Nat.le_refl _, ⟨rfl, rfl, rfl⟩, rfl, rfl, rfl⟩
  · exact ⟨fun i => ⟨i.1, ⟨i.2.1, i.2.2, i.2.3, i.2.4, i.2.5, i.2.6, i.2.7, i.2.8, i.2.9⟩, i.3, i.4⟩,
      ⟨rfl, rfl, rfl, rfl, rfl⟩, rfl, .refl _, rfl, Nat.le_refl _, ⟨rfl, rfl, rfl⟩, rfl, rfl, rfl⟩
  · have hi := s.ppu.oamAddr.isLt
    exact ⟨fun i => ⟨i.1, ⟨i.2.1, i.2.2, i.2.3, i.2.4, i.2.5, i.2.6, i.2.7.set hi v, i.2.8, i.2.9⟩, i.3, i.4⟩,
      ⟨rfl, rfl, rfl, rfl, rfl⟩, rfl, .refl _, rfl, Nat.le_refl _, ⟨rfl, rfl, rfl⟩, rfl, rfl, rfl⟩
  · unfold Ppu.scrollWrite
    split
    · exact ⟨fun i => ⟨i.1, ⟨i.2.1, i.2.2, i.2.3, i.2.4, i.2.5, i.2.6, i.2.7, i.2.8, i.2.9⟩, i.3, i.4⟩,
        ⟨rfl, rfl, rfl, rfl, rfl⟩, rfl, .refl _, rfl, Nat.le_refl _, ⟨rfl, rfl, rfl⟩, rfl, rfl, rfl⟩
    · exact ⟨fun i => ⟨i.1, ⟨i.2.1, i.2.2, i.2.3, i.2.4, i.2.5, i.2.6, i.2.7, i.2.8, i.2.9⟩, i.3, i.4⟩,
        ⟨rfl, rfl, rfl, rfl, rfl⟩, rfl, .refl _, rfl, Nat.le_refl _, ⟨rfl, rfl, rfl⟩, rfl, rfl, rfl⟩
  · unfold Ppu.addrWrite
    split
    · exact ⟨fun i => ⟨i.1, ⟨i.2.1, i.2.2, i.2.3, i.2.4, i.2.5, i.2.6, i.2.7, i.2.8, i.2.9⟩, i.3, i.4⟩,
        ⟨rfl, rfl, rfl, rfl, rfl⟩, rfl, .refl _, rfl, Nat.le_refl _, ⟨rfl, rfl, rfl⟩, rfl, rfl, rfl⟩
    · exact ⟨fun i => ⟨i.1, ⟨i.2.1, i.2.2, i.2.3, i.2.4, i.2.5, i.2.6, i.2.7, i.2.8, i.2.9⟩, i.3, i.4⟩,
        ⟨rfl, rfl, rfl, rfl, rfl⟩, rfl, .refl _, rfl, Nat.le_refl _, ⟨rfl, rfl, rfl⟩, rfl, rfl, rfl⟩
  · obtain ⟨h1, h2, h3, h4⟩ := Video.write_spec ⟨s.ppu, s.cart, s.settings⟩ (s.ppu.v.setWidth 14) v
    have hc : (s.withVideo (Video.dataWrite ⟨s.ppu, s.cart, s.settings⟩ v)).cart =
        (Video.write ⟨s.ppu, s.cart, s.settings⟩ (s.ppu.v.setWidth 14) v).cart := rfl
    have hp : (s.withVideo (Video.dataWrite ⟨s.ppu, s.cart, s.settings⟩ v)).ppu =
        (Video.write ⟨s.ppu, s.cart, s.settings⟩ (s.ppu.v.setWidth 14) v).ppu.incrementV := rfl
    generalize Video.write ⟨s.ppu, s.cart, s.settings⟩ (s.ppu.v.setWidth 14) v = b at *
    generalize Video.dataWrite ⟨s.ppu, s.cart, s.settings⟩ v = b' at *
    exact
      { parts := fun i =>
          { ram := i.ram
            ppu := by
              rw [hp]
              have j := h4 i.ppu
              exact ⟨j.1, j.2, j.3, j.4, j.5, j.6, j.7, j.8, j.9⟩
            apu := i.apu
            cart := by rw [hc]; exact h2 i.cart }
        place := by
          rw [hp, h3]
          exact ⟨rfl, rfl, rfl, rfl, rfl⟩
        apuCycle := rfl
        cart := by rw [hc]; exact h1
        refused := rfl
        cycles := Nat.le_refl _
        inputs := ⟨rfl, rfl, rfl⟩
        samples := rfl
        framebuffer := by rw [hp, h3]; rfl
        settings := rfl }
  · exact .refl s

theorem Cart.cpuWrite_spec (c : Cart) (a : Word) (v : Byte) :
    CartKept c (c.cpuWrite a v) ∧ (c.Inv → (c.cpuWrite a v).Inv) := by
  unfold Cart.cpuWrite
  split
  · exact ⟨.refl c, id⟩
  split
  · exact ⟨⟨rfl, rfl, rfl, rfl, rfl, fun _ => rfl, rfl, rfl, rfl⟩,
      fun i => ⟨i.prgRom, i.chr, i.prgRam.set (by omega) v⟩⟩
  split
  · exact ⟨⟨rfl, rfl, rfl, rfl, rfl, fun _ => rfl, rfl, rfl, rfl⟩, fun i => ⟨i.prgRom, i.chr, i.prgRam⟩⟩
  · exact ⟨.refl c, id⟩

theorem Apu.write_samples (u : Apu) (r : Nat) (v : Byte) : (u.write r v).samples = u.samples := by
  unfold Apu.write
  split <;> try rfl
  unfold Apu.writeFrameCounter
  extract_lets u1
  split <;> rfl

/-- A bus write. -/
theorem State.write_quiet (s : State) (a : Word) (v : Byte) : Quiet s (s.write a v) := by
  rcases writeRange a with h | ⟨h, h'⟩ | h | h | ⟨h, h', h14, h16⟩ | ⟨h, h'⟩ | h
  · rw [s.write_ram h]
    exact ⟨fun i => ⟨i.1.set (Nat.mod_lt _ (by omega)) v, i.2, i.3, i.4⟩, .refl _, rfl, .refl _, rfl, Nat.le_refl _,
      ⟨rfl, rfl, rfl⟩, rfl, rfl, rfl⟩
  · rw [s.write_ppu h h']; exact s.writePpuReg_quiet _ v
  · rw [s.write_dma h]
    exact ⟨fun i => ⟨i.1, i.2, i.3, i.4⟩, .refl _, rfl, .refl _, rfl, Nat.le_refl _, ⟨rfl, rfl, rfl⟩, rfl,
        rfl, rfl⟩
  · rw [s.write_strobe h]
    unfold State.writeStrobe
    simp only
    split
    · exact ⟨fun i => ⟨i.1, i.2, i.3, i.4⟩, .refl _, rfl, .refl _, rfl, Nat.le_refl _, ⟨rfl, rfl, rfl⟩, rfl,
        rfl, rfl⟩
    · exact ⟨fun i => ⟨i.1, i.2, i.3, i.4⟩, .refl _, rfl, .refl _, rfl, Nat.le_refl _, ⟨rfl, rfl, rfl⟩, rfl,
        rfl, rfl⟩
  · rw [s.write_apu h h' h14 h16]
    generalize a.toNat - 0x4000 = r
    exact ⟨fun i => ⟨i.1, i.2, s.apu.write_inv r v i.3, i.4⟩, .refl _, s.apu.write_apuCycle r v, .refl _, rfl,
      Nat.le_refl _, ⟨rfl, rfl, rfl⟩, s.apu.write_samples r v, rfl, rfl⟩
  · rw [s.write_none h h']; exact .refl s
  · rw [s.write_cart h]
    exact ⟨fun i => ⟨i.1, i.2, i.3, (s.cart.cpuWrite_spec a v).2 i.4⟩, .refl _, rfl, (s.cart.cpuWrite_spec a v).1,
      rfl, Nat.le_refl _, ⟨rfl, rfl, rfl⟩, rfl, rfl, rfl⟩

/-! ### The operations over them -/

theorem State.push_quiet (s : State) (v : Byte) : Quiet s (s.push v) :=
  (s.write_quiet _ v).trans (State.setSp_quiet _ _)

theorem State.pull_quiet (s : State) : Quiet s s.pull.2 := by
  rw [State.pull_eq]; exact s.setSp_quiet _

theorem State.pushWord_quiet (s : State) (w : Word) : Quiet s (s.pushWord w) :=
  (s.push_quiet _).trans (State.push_quiet _ _)

theorem State.pullWord_quiet (s : State) : Quiet s s.pullWord.2 := by
  rw [State.pullWord_eq]; exact s.setSp_quiet _

theorem State.read16_quiet (s : State) (a : Word) : Quiet s (s.read16 a).2 :=
  (s.read_quiet a).trans (State.read_quiet _ _)

theorem State.read16Page_quiet (s : State) (a : Word) : Quiet s (s.read16Page a).2 :=
  (s.read_quiet a).trans (State.read_quiet _ _)

theorem State.fetch_quiet (s : State) : Quiet s s.fetch.2 := (s.read_quiet _).trans (State.setPc_quiet _ _)

theorem State.enterHandler_quiet (s : State) (p : Byte) (v : Word) : Quiet s (s.enterHandler p v) :=
  ((((s.pushWord_quiet _).trans (State.push_quiet _ p)).trans (State.setFlags_quiet _ _)).trans
    (State.read16_quiet _ v)).trans (State.setPc_quiet _ _)

theorem State.returnFromHandler_quiet (s : State) : Quiet s s.returnFromHandler := by
  rw [State.returnFromHandler_eq]; exact .ofCpu s rfl (Nat.le_refl _)

theorem State.rmw_quiet (s : State) (ea : Word) (f : Byte → Flags → Byte × Flags) : Quiet s (s.rmw ea f).2 := by
  unfold State.rmw State.rmwWith
  extract_lets q s1 r
  have h1 : Quiet s s1 := by
    show Quiet s (if _ then _ else _)
    split
    · exact (s.read_quiet ea).trans (State.write_quiet _ _ _)
    · exact s.read_quiet ea
  exact (h1.trans (s1.setFlags_quiet _)).trans (State.write_quiet _ _ _)

theorem State.dmaByte_quiet (s : State) (i : Byte) : Quiet s (s.dmaByte i) := by
  refine (s.read_quiet (wordOf i s.bus.dmaPage)).trans ?_
  unfold State.dmaByte
  simp only
  generalize s.read (wordOf i s.bus.dmaPage) = r
  have hi := r.2.ppu.oamAddr.isLt
  exact ⟨fun j => ⟨j.1, ⟨j.2.1, j.2.2, j.2.3, j.2.4, j.2.5, j.2.6, j.2.7.set hi r.1, j.2.8, j.2.9⟩, j.3, j.4⟩,
    ⟨rfl, rfl, rfl, rfl, rfl⟩, rfl, .refl _, rfl, Nat.le_refl _, ⟨rfl, rfl, rfl⟩, rfl, rfl, rfl⟩

theorem State.dmaCopy_quiet (n : Nat) (i : Byte) (s : State) : Quiet s (State.dmaCopy n i s) := by
  induction n generalizing i s with
  | zero => exact .refl s
  | succ n ih => exact (s.dmaByte_quiet i).trans (ih _ _)

end Sys2Proof.Machine
end

