-- ==== Sys2Proof/Laws/Decode.lean ====
section
/-! SUPPORT. Decoding by the form of the opcode's row (spec 30 R300-R303). -/

namespace Sys2Proof

open Machine

theorem decode_none {op : Byte} {i : Instr} (h : (rowOf op).form = .none i) (rest : List Byte) :
    decode (op :: rest) = .instr i rest := by
  have hl : lengthOf op = 1 := by unfold lengthOf OpRow.length; rw [h]; rfl
  simp [decode, instrOf, h, hl]

theorem decode_byte {op : Byte} {f : Byte → Instr} (h : (rowOf op).form = .byte f) (b : Byte) (rest : List Byte) :
    decode (op :: b :: rest) = .instr (f b) rest := by
  have hl : lengthOf op = 2 := by unfold lengthOf OpRow.length; rw [h]; rfl
  simp [decode, instrOf, h, hl]

theorem decode_word {op : Byte} {f : Word → Instr} (h : (rowOf op).form = .word f) (a : Word) (rest : List Byte) :
    decode (op :: loByte a :: hiByte a :: rest) = .instr (f a) rest := by
  have hl : lengthOf op = 3 := by unfold lengthOf OpRow.length; rw [h]; rfl
  simp [decode, instrOf, h, hl]

/-- What the decoder reads, by the form of the opcode's row. -/
theorem decode_cons (op : Byte) (rest : List Byte) :
    decode (op :: rest) = match (rowOf op).form, rest with
      | .none i, r => .instr i r
      | .byte f, b :: r => .instr (f b) r
      | .byte _, [] => .truncated op
      | .word f, b :: c :: r => .instr (f (wordOf b c)) r
      | .word _, [_] => .truncated op
      | .word _, [] => .truncated op := by
  cases h : (rowOf op).form with
  | none i => simp [decode_none h]
  | byte f =>
    cases rest with
    | nil => simp [decode, lengthOf, OpRow.length, h, Form.length]
    | cons b r => simp [decode_byte h]
  | word f =>
    have hl : lengthOf op = 3 := by unfold lengthOf OpRow.length; rw [h]; rfl
    rcases rest with _ | ⟨b, _ | ⟨c, r⟩⟩ <;> simp [decode, hl, instrOf, h]

/-- The row of an instruction, from its encoding. -/
theorem Instr.row_of_encode {i : Instr} {op : Byte} {bs : List Byte} (h : encode i = op :: bs) : i.row = rowOf op := by
  simp [Instr.row, Instr.opcode, h]

/-- Whether an instruction is admitted, from its encoding. -/
theorem Instr.wellFormed_of_encode {i : Instr} {op : Byte} {bs : List Byte} (h : encode i = op :: bs) :
    i.wellFormed = (rowOf op).tier.admitted := by
  rw [Instr.wellFormed, Instr.row_of_encode h]

end Sys2Proof
end

