-- ==== Sys2Proof/Laws/Exec.lean ====
section
/-! SUPPORT. What the shared operations of the meanings answer, and what every instruction keeps. -/

namespace Sys2Proof.Machine

/-! ### What the shared operations answer -/

theorem readOp_eq (o : Operand) (base : Nat) (penalty : Bool) (use : Byte → State → State) (s : State) :
    readOp o base penalty use s =
      .next ((use (o.load s).value (o.load s).st).addCycles (base + pageExtra penalty (o.load s).crossed)) := rfl

theorem storeOp_eq (m : Mem) (base : Nat) (v : Cpu → Byte) (s : State) :
    storeOp m base v s = .next ((s.write (m.resolve s).ea (v s.cpu)).addCycles base) := by
  unfold storeOp finish
  simp only [Mem.resolve_st]

theorem rmwOp_eq (m : Mem) (base : Nat) (f : Byte → Flags → Byte × Flags) (use : Byte → State → State) (s : State) :
    rmwOp m base f use s =
      .next ((use (s.rmw (m.resolve s).ea f).1 (s.rmw (m.resolve s).ea f).2).addCycles base) := by
  unfold rmwOp finish
  simp only [Mem.resolve_st]

theorem accOp_eq (base : Nat) (f : Byte → Flags → Byte × Flags) (s : State) :
    accOp base f s = .next ((((s.setFlags (f s.cpu.a s.cpu.flags).2).setA (f s.cpu.a s.cpu.flags).1).setZN
      (f s.cpu.a s.cpu.flags).1).addCycles base) := rfl

theorem impliedOp_eq (base : Nat) (use : State → State) (s : State) :
    impliedOp base use s = .next ((use s).addCycles base) := rfl

/-! ### The forms' results (the terms of `Safety`) -/

/-- Setting the flags and a bus write go in either order. -/
theorem State.write_setFlags (s : State) (f : Flags) (a : Word) (v : Byte) :
    (s.setFlags f).write a v = (s.write a v).setFlags f := by
  unfold State.write
  simp only
  split
  · rfl
  split
  · unfold State.writePpuReg
    split <;> rfl
  split
  · rfl
  split
  · unfold State.writeStrobe
    show ite ((s.bus.strobe && !bit v 0) = true) _ _ = _
    simp only
    split <;> rfl
  split
  · simp only [State.setFlags]
  split <;> simp only [State.setFlags]

theorem bit_seven (v : Byte) : bit v 7 = v.msb := by
  simp [bit, BitVec.msb_eq_getLsbD_last]

theorem State.setZN_eq (s : State) (v : Byte) : s.setZN v = s.withCpu (s.cpu.withZN v) := by
  unfold State.setZN State.setFlags State.withCpu Flags.setZN Cpu.withZN
  rw [bit_seven]

/-- The read-modify-write protocol, the flags aside (R502). -/
theorem State.rmw_modify (s : State) (ea : Word) (f : Byte → Flags → Byte × Flags) :
    s.rmw ea f = ((f (s.read ea).1 s.cpu.flags).1,
      (s.modify ea fun m => (f m s.cpu.flags).1).setFlags (f (s.read ea).1 s.cpu.flags).2) := by
  unfold State.rmw State.rmwWith State.modify
  cases s.settings.rmwDummyWrite <;>
    simp only [if_true, if_false, Bool.false_eq_true, State.write_setFlags, State.write_flags, State.read_cpu]

@[simp] theorem State.modify_flags (s : State) (ea : Word) (r : Byte → Byte) :
    (s.modify ea r).cpu.flags = s.cpu.flags := by
  unfold State.modify; split <;> simp

@[simp] theorem State.modify_cycles (s : State) (ea : Word) (r : Byte → Byte) :
    (s.modify ea r).cpu.cycles = s.cpu.cycles := by
  unfold State.modify; split <;> simp

theorem readOp_result {i : Instr} {o : Operand} {n : Nat} {p : Bool} {use : Byte → State → State}
    {g : Byte → Cpu → Cpu} (hu : ∀ v u, use v u = u.withCpu (g v u.cpu)) (hc : ∀ v c, (g v c).cycles = c.cycles)
    (s : State) : readOp o n p use s = .next ((⟨i, o, n, p⟩ : ReadForm).result s g) := by
  rw [readOp_eq, hu]
  unfold ReadForm.result ReadForm.count State.addCycles State.withCpu pageExtra
  simp only [Operand.load_cpu, hc, Bool.and_eq_true]

theorem storeOp_stored {i : Instr} {m : Mem} {n : Nat} {v : Cpu → Byte} (s : State) :
    storeOp m n v s = .next ((⟨i, m, n⟩ : MemForm).stored s (v s.cpu)) := by
  rw [storeOp_eq]; rfl

theorem rmwOp_modified {i : Instr} {m : Mem} {n : Nat} {f : Byte → Flags → Byte × Flags} {use : Byte → State → State}
    {g : Byte → Cpu → Cpu} {r : Byte → Byte} (s : State) (hr : ∀ b, (f b s.cpu.flags).1 = r b)
    (hu : ∀ b (u : State), u.cpu.flags = s.cpu.flags →
      use (r b) (u.setFlags (f b s.cpu.flags).2) = u.withCpu (g b u.cpu))
    (hc : ∀ v c, (g v c).cycles = c.cycles) :
    rmwOp m n f use s = .next ((⟨i, m, n⟩ : MemForm).modified s r g) := by
  rw [rmwOp_eq, State.rmw_modify]
  simp only [hr]
  rw [hu _ _ (State.modify_flags _ _ _)]
  unfold MemForm.modified State.addCycles State.withCpu
  simp only [hc, State.modify_cycles]

theorem Flags.setZN_eq (f : Flags) (v : Byte) : f.setZN v = { f with z := v == 0, n := v.msb } := by
  unfold Flags.setZN; rw [bit_seven]

/-! ### Quiet uses -/

theorem loadA_quiet (v : Byte) (s : State) : Quiet s (loadA v s) := .ofCpu s rfl (Nat.le_refl _)
theorem loadX_quiet (v : Byte) (s : State) : Quiet s (loadX v s) := .ofCpu s rfl (Nat.le_refl _)
theorem loadY_quiet (v : Byte) (s : State) : Quiet s (loadY v s) := .ofCpu s rfl (Nat.le_refl _)
theorem loadAX_quiet (v : Byte) (s : State) : Quiet s (loadAX v s) := .ofCpu s rfl (Nat.le_refl _)
theorem addA_quiet (v : Byte) (s : State) : Quiet s (addA v s) := .ofCpu s rfl (Nat.le_refl _)
theorem subtractA_quiet (v : Byte) (s : State) : Quiet s (subtractA v s) := .ofCpu s rfl (Nat.le_refl _)
theorem andA_quiet (v : Byte) (s : State) : Quiet s (andA v s) := .ofCpu s rfl (Nat.le_refl _)
theorem orA_quiet (v : Byte) (s : State) : Quiet s (orA v s) := .ofCpu s rfl (Nat.le_refl _)
theorem eorA_quiet (v : Byte) (s : State) : Quiet s (eorA v s) := .ofCpu s rfl (Nat.le_refl _)
theorem compareA_quiet (v : Byte) (s : State) : Quiet s (compareA v s) := .ofCpu s rfl (Nat.le_refl _)
theorem compareX_quiet (v : Byte) (s : State) : Quiet s (compareX v s) := .ofCpu s rfl (Nat.le_refl _)
theorem compareY_quiet (v : Byte) (s : State) : Quiet s (compareY v s) := .ofCpu s rfl (Nat.le_refl _)
theorem bitTest_quiet (v : Byte) (s : State) : Quiet s (bitTest v s) := .ofCpu s rfl (Nat.le_refl _)
theorem setZNof_quiet (v : Byte) (s : State) : Quiet s (setZNof v s) := .ofCpu s rfl (Nat.le_refl _)
theorem discard_quiet (v : Byte) (s : State) : Quiet s (discard v s) := .refl s
theorem ancA_quiet (v : Byte) (s : State) : Quiet s (ancA v s) := .ofCpu s rfl (Nat.le_refl _)
theorem alrA_quiet (v : Byte) (s : State) : Quiet s (alrA v s) := .ofCpu s rfl (Nat.le_refl _)
theorem arrA_quiet (v : Byte) (s : State) : Quiet s (arrA v s) := .ofCpu s rfl (Nat.le_refl _)
theorem axsX_quiet (v : Byte) (s : State) : Quiet s (axsX v s) := .ofCpu s rfl (Nat.le_refl _)

theorem pullA_quiet (s : State) : Quiet s (pullA s) := s.pull_quiet.trans (loadA_quiet _ _)
theorem pullP_quiet (s : State) : Quiet s (pullP s) := s.pull_quiet.trans (State.setFlags_quiet _ _)
theorem returnFromSubroutine_quiet (s : State) : Quiet s (returnFromSubroutine s) :=
  s.pullWord_quiet.trans (State.setPc_quiet _ _)
theorem breakEntry_quiet (s : State) : Quiet s (breakEntry s) :=
  (s.setPc_quiet _).trans (State.enterHandler_quiet _ _ _)

/-! ### Quiet operations -/

theorem finish_quiet {n : Nat} {r s t : State} (h : Quiet r s) (e : finish n s = .next t) : Quiet r t := by
  cases e; exact h.trans (s.addCycles_quiet n)

theorem readOp_quiet {o : Operand} {base : Nat} {penalty : Bool} {use : Byte → State → State} {s t : State}
    (hu : ∀ v s, Quiet s (use v s)) (e : readOp o base penalty use s = .next t) : Quiet s t :=
  finish_quiet ((o.load_frame s).quiet.trans (hu _ _)) e

theorem storeOp_quiet {m : Mem} {base : Nat} {v : Cpu → Byte} {s t : State} (e : storeOp m base v s = .next t) :
    Quiet s t := by
  rw [storeOp_eq] at e
  exact finish_quiet (s.write_quiet _ _) e

theorem rmwOp_quiet {m : Mem} {base : Nat} {f : Byte → Flags → Byte × Flags} {use : Byte → State → State}
    {s t : State} (hu : ∀ v s, Quiet s (use v s)) (e : rmwOp m base f use s = .next t) : Quiet s t := by
  rw [rmwOp_eq] at e
  exact finish_quiet ((s.rmw_quiet _ f).trans (hu _ _)) e

theorem accOp_quiet {base : Nat} {f : Byte → Flags → Byte × Flags} {s t : State} (e : accOp base f s = .next t) :
    Quiet s t :=
  finish_quiet (((s.setFlags_quiet _).trans (State.setA_quiet _ _)).trans (State.setZN_quiet _ _)) e

theorem impliedOp_quiet {base : Nat} {use : State → State} {s t : State} (hu : Quiet s (use s))
    (e : impliedOp base use s = .next t) : Quiet s t := finish_quiet hu e

theorem branchOp_quiet {cond : Flags → Bool} {off : Byte} {s t : State} (e : branchOp cond off s = .next t) :
    Quiet s t := by
  unfold branchOp at e
  simp only at e
  split at e
  · exact finish_quiet (s.setPc_quiet _) e
  · exact finish_quiet (.refl s) e

theorem jumpOp_quiet {base : Nat} {a : Word} {s t : State} (e : jumpOp base a s = .next t) : Quiet s t :=
  finish_quiet (s.setPc_quiet a) e

theorem jumpIndirectOp_quiet {base : Nat} {a : Word} {s t : State} (e : jumpIndirectOp base a s = .next t) :
    Quiet s t := finish_quiet ((s.read16Page_quiet a).trans (State.setPc_quiet _ _)) e

theorem callOp_quiet {base : Nat} {a : Word} {s t : State} (e : callOp base a s = .next t) : Quiet s t :=
  finish_quiet ((s.pushWord_quiet _).trans (State.setPc_quiet _ a)) e

/-- What every instruction keeps. -/
theorem exec_quiet {i : Instr} {s t : State} (e : exec i s = .next t) : Quiet s t := by
  cases i with
  | brk => exact impliedOp_quiet (breakEntry_quiet s) e
  | oraIndX b => exact readOp_quiet orA_quiet e
  | jam02 => exact nomatch e
  | sloIndX b => exact rmwOp_quiet orA_quiet e
  | nopZp04 b => exact readOp_quiet discard_quiet e
  | oraZp b => exact readOp_quiet orA_quiet e
  | aslZp b => exact rmwOp_quiet setZNof_quiet e
  | sloZp b => exact rmwOp_quiet orA_quiet e
  | php => exact impliedOp_quiet (State.push_quiet _ _) e
  | oraImm b => exact readOp_quiet orA_quiet e
  | aslAcc => exact accOp_quiet e
  | ancImm0B b => exact readOp_quiet ancA_quiet e
  | nopAbs0C a => exact readOp_quiet discard_quiet e
  | oraAbs a => exact readOp_quiet orA_quiet e
  | aslAbs a => exact rmwOp_quiet setZNof_quiet e
  | sloAbs a => exact rmwOp_quiet orA_quiet e
  | bpl b => exact branchOp_quiet (cond := fun f => !f.n) e
  | oraIndY b => exact readOp_quiet orA_quiet e
  | jam12 => exact nomatch e
  | sloIndY b => exact rmwOp_quiet orA_quiet e
  | nopZpX14 b => exact readOp_quiet discard_quiet e
  | oraZpX b => exact readOp_quiet orA_quiet e
  | aslZpX b => exact rmwOp_quiet setZNof_quiet e
  | sloZpX b => exact rmwOp_quiet orA_quiet e
  | clc => exact impliedOp_quiet (s.setFlags_quiet _) e
  | oraAbsY a => exact readOp_quiet orA_quiet e
  | nopImp1A => exact impliedOp_quiet (.refl s) e
  | sloAbsY a => exact rmwOp_quiet orA_quiet e
  | nopAbsX1C a => exact readOp_quiet discard_quiet e
  | oraAbsX a => exact readOp_quiet orA_quiet e
  | aslAbsX a => exact rmwOp_quiet setZNof_quiet e
  | sloAbsX a => exact rmwOp_quiet orA_quiet e
  | jsrAbs a => exact callOp_quiet e
  | andIndX b => exact readOp_quiet andA_quiet e
  | jam22 => exact nomatch e
  | rlaIndX b => exact rmwOp_quiet andA_quiet e
  | bitZp b => exact readOp_quiet bitTest_quiet e
  | andZp b => exact readOp_quiet andA_quiet e
  | rolZp b => exact rmwOp_quiet setZNof_quiet e
  | rlaZp b => exact rmwOp_quiet andA_quiet e
  | plp => exact impliedOp_quiet (pullP_quiet s) e
  | andImm b => exact readOp_quiet andA_quiet e
  | rolAcc => exact accOp_quiet e
  | ancImm2B b => exact readOp_quiet ancA_quiet e
  | bitAbs a => exact readOp_quiet bitTest_quiet e
  | andAbs a => exact readOp_quiet andA_quiet e
  | rolAbs a => exact rmwOp_quiet setZNof_quiet e
  | rlaAbs a => exact rmwOp_quiet andA_quiet e
  | bmi b => exact branchOp_quiet (cond := fun f => f.n) e
  | andIndY b => exact readOp_quiet andA_quiet e
  | jam32 => exact nomatch e
  | rlaIndY b => exact rmwOp_quiet andA_quiet e
  | nopZpX34 b => exact readOp_quiet discard_quiet e
  | andZpX b => exact readOp_quiet andA_quiet e
  | rolZpX b => exact rmwOp_quiet setZNof_quiet e
  | rlaZpX b => exact rmwOp_quiet andA_quiet e
  | sec => exact impliedOp_quiet (s.setFlags_quiet _) e
  | andAbsY a => exact readOp_quiet andA_quiet e
  | nopImp3A => exact impliedOp_quiet (.refl s) e
  | rlaAbsY a => exact rmwOp_quiet andA_quiet e
  | nopAbsX3C a => exact readOp_quiet discard_quiet e
  | andAbsX a => exact readOp_quiet andA_quiet e
  | rolAbsX a => exact rmwOp_quiet setZNof_quiet e
  | rlaAbsX a => exact rmwOp_quiet andA_quiet e
  | rti => exact impliedOp_quiet (State.returnFromHandler_quiet s) e
  | eorIndX b => exact readOp_quiet eorA_quiet e
  | jam42 => exact nomatch e
  | sreIndX b => exact rmwOp_quiet eorA_quiet e
  | nopZp44 b => exact readOp_quiet discard_quiet e
  | eorZp b => exact readOp_quiet eorA_quiet e
  | lsrZp b => exact rmwOp_quiet setZNof_quiet e
  | sreZp b => exact rmwOp_quiet eorA_quiet e
  | pha => exact impliedOp_quiet (State.push_quiet _ _) e
  | eorImm b => exact readOp_quiet eorA_quiet e
  | lsrAcc => exact accOp_quiet e
  | alrImm b => exact readOp_quiet alrA_quiet e
  | jmpAbs a => exact jumpOp_quiet e
  | eorAbs a => exact readOp_quiet eorA_quiet e
  | lsrAbs a => exact rmwOp_quiet setZNof_quiet e
  | sreAbs a => exact rmwOp_quiet eorA_quiet e
  | bvc b => exact branchOp_quiet (cond := fun f => !f.v) e
  | eorIndY b => exact readOp_quiet eorA_quiet e
  | jam52 => exact nomatch e
  | sreIndY b => exact rmwOp_quiet eorA_quiet e
  | nopZpX54 b => exact readOp_quiet discard_quiet e
  | eorZpX b => exact readOp_quiet eorA_quiet e
  | lsrZpX b => exact rmwOp_quiet setZNof_quiet e
  | sreZpX b => exact rmwOp_quiet eorA_quiet e
  | cli => exact impliedOp_quiet (s.setFlags_quiet _) e
  | eorAbsY a => exact readOp_quiet eorA_quiet e
  | nopImp5A => exact impliedOp_quiet (.refl s) e
  | sreAbsY a => exact rmwOp_quiet eorA_quiet e
  | nopAbsX5C a => exact readOp_quiet discard_quiet e
  | eorAbsX a => exact readOp_quiet eorA_quiet e
  | lsrAbsX a => exact rmwOp_quiet setZNof_quiet e
  | sreAbsX a => exact rmwOp_quiet eorA_quiet e
  | rts => exact impliedOp_quiet (returnFromSubroutine_quiet s) e
  | adcIndX b => exact readOp_quiet addA_quiet e
  | jam62 => exact nomatch e
  | rraIndX b => exact rmwOp_quiet addA_quiet e
  | nopZp64 b => exact readOp_quiet discard_quiet e
  | adcZp b => exact readOp_quiet addA_quiet e
  | rorZp b => exact rmwOp_quiet setZNof_quiet e
  | rraZp b => exact rmwOp_quiet addA_quiet e
  | pla => exact impliedOp_quiet (pullA_quiet s) e
  | adcImm b => exact readOp_quiet addA_quiet e
  | rorAcc => exact accOp_quiet e
  | arrImm b => exact readOp_quiet arrA_quiet e
  | jmpInd a => exact jumpIndirectOp_quiet e
  | adcAbs a => exact readOp_quiet addA_quiet e
  | rorAbs a => exact rmwOp_quiet setZNof_quiet e
  | rraAbs a => exact rmwOp_quiet addA_quiet e
  | bvs b => exact branchOp_quiet (cond := fun f => f.v) e
  | adcIndY b => exact readOp_quiet addA_quiet e
  | jam72 => exact nomatch e
  | rraIndY b => exact rmwOp_quiet addA_quiet e
  | nopZpX74 b => exact readOp_quiet discard_quiet e
  | adcZpX b => exact readOp_quiet addA_quiet e
  | rorZpX b => exact rmwOp_quiet setZNof_quiet e
  | rraZpX b => exact rmwOp_quiet addA_quiet e
  | sei => exact impliedOp_quiet (s.setFlags_quiet _) e
  | adcAbsY a => exact readOp_quiet addA_quiet e
  | nopImp7A => exact impliedOp_quiet (.refl s) e
  | rraAbsY a => exact rmwOp_quiet addA_quiet e
  | nopAbsX7C a => exact readOp_quiet discard_quiet e
  | adcAbsX a => exact readOp_quiet addA_quiet e
  | rorAbsX a => exact rmwOp_quiet setZNof_quiet e
  | rraAbsX a => exact rmwOp_quiet addA_quiet e
  | nopImm80 b => exact readOp_quiet discard_quiet e
  | staIndX b => exact storeOp_quiet e
  | nopImm82 b => exact readOp_quiet discard_quiet e
  | saxIndX b => exact storeOp_quiet e
  | styZp b => exact storeOp_quiet e
  | staZp b => exact storeOp_quiet e
  | stxZp b => exact storeOp_quiet e
  | saxZp b => exact storeOp_quiet e
  | dey => exact impliedOp_quiet ((s.setY_quiet _).trans (State.setZN_quiet _ _)) e
  | nopImm89 b => exact readOp_quiet discard_quiet e
  | txa => exact impliedOp_quiet ((s.setA_quiet _).trans (State.setZN_quiet _ _)) e
  | xaa8B => exact nomatch e
  | styAbs a => exact storeOp_quiet e
  | staAbs a => exact storeOp_quiet e
  | stxAbs a => exact storeOp_quiet e
  | saxAbs a => exact storeOp_quiet e
  | bcc b => exact branchOp_quiet (cond := fun f => !f.c) e
  | staIndY b => exact storeOp_quiet e
  | jam92 => exact nomatch e
  | sha93 => exact nomatch e
  | styZpX b => exact storeOp_quiet e
  | staZpX b => exact storeOp_quiet e
  | stxZpY b => exact storeOp_quiet e
  | saxZpY b => exact storeOp_quiet e
  | tya => exact impliedOp_quiet ((s.setA_quiet _).trans (State.setZN_quiet _ _)) e
  | staAbsY a => exact storeOp_quiet e
  | txs => exact impliedOp_quiet (s.setSp_quiet _) e
  | tas9B => exact nomatch e
  | shy9C => exact nomatch e
  | staAbsX a => exact storeOp_quiet e
  | shx9E => exact nomatch e
  | sha9F => exact nomatch e
  | ldyImm b => exact readOp_quiet loadY_quiet e
  | ldaIndX b => exact readOp_quiet loadA_quiet e
  | ldxImm b => exact readOp_quiet loadX_quiet e
  | laxIndX b => exact readOp_quiet loadAX_quiet e
  | ldyZp b => exact readOp_quiet loadY_quiet e
  | ldaZp b => exact readOp_quiet loadA_quiet e
  | ldxZp b => exact readOp_quiet loadX_quiet e
  | laxZp b => exact readOp_quiet loadAX_quiet e
  | tay => exact impliedOp_quiet ((s.setY_quiet _).trans (State.setZN_quiet _ _)) e
  | ldaImm b => exact readOp_quiet loadA_quiet e
  | tax => exact impliedOp_quiet ((s.setX_quiet _).trans (State.setZN_quiet _ _)) e
  | lxaAB => exact nomatch e
  | ldyAbs a => exact readOp_quiet loadY_quiet e
  | ldaAbs a => exact readOp_quiet loadA_quiet e
  | ldxAbs a => exact readOp_quiet loadX_quiet e
  | laxAbs a => exact readOp_quiet loadAX_quiet e
  | bcs b => exact branchOp_quiet (cond := fun f => f.c) e
  | ldaIndY b => exact readOp_quiet loadA_quiet e
  | jamB2 => exact nomatch e
  | laxIndY b => exact readOp_quiet loadAX_quiet e
  | ldyZpX b => exact readOp_quiet loadY_quiet e
  | ldaZpX b => exact readOp_quiet loadA_quiet e
  | ldxZpY b => exact readOp_quiet loadX_quiet e
  | laxZpY b => exact readOp_quiet loadAX_quiet e
  | clv => exact impliedOp_quiet (s.setFlags_quiet _) e
  | ldaAbsY a => exact readOp_quiet loadA_quiet e
  | tsx => exact impliedOp_quiet ((s.setX_quiet _).trans (State.setZN_quiet _ _)) e
  | lasBB => exact nomatch e
  | ldyAbsX a => exact readOp_quiet loadY_quiet e
  | ldaAbsX a => exact readOp_quiet loadA_quiet e
  | ldxAbsY a => exact readOp_quiet loadX_quiet e
  | laxAbsY a => exact readOp_quiet loadAX_quiet e
  | cpyImm b => exact readOp_quiet compareY_quiet e
  | cmpIndX b => exact readOp_quiet compareA_quiet e
  | nopImmC2 b => exact readOp_quiet discard_quiet e
  | dcpIndX b => exact rmwOp_quiet compareA_quiet e
  | cpyZp b => exact readOp_quiet compareY_quiet e
  | cmpZp b => exact readOp_quiet compareA_quiet e
  | decZp b => exact rmwOp_quiet setZNof_quiet e
  | dcpZp b => exact rmwOp_quiet compareA_quiet e
  | iny => exact impliedOp_quiet ((s.setY_quiet _).trans (State.setZN_quiet _ _)) e
  | cmpImm b => exact readOp_quiet compareA_quiet e
  | dex => exact impliedOp_quiet ((s.setX_quiet _).trans (State.setZN_quiet _ _)) e
  | axsImm b => exact readOp_quiet axsX_quiet e
  | cpyAbs a => exact readOp_quiet compareY_quiet e
  | cmpAbs a => exact readOp_quiet compareA_quiet e
  | decAbs a => exact rmwOp_quiet setZNof_quiet e
  | dcpAbs a => exact rmwOp_quiet compareA_quiet e
  | bne b => exact branchOp_quiet (cond := fun f => !f.z) e
  | cmpIndY b => exact readOp_quiet compareA_quiet e
  | jamD2 => exact nomatch e
  | dcpIndY b => exact rmwOp_quiet compareA_quiet e
  | nopZpXD4 b => exact readOp_quiet discard_quiet e
  | cmpZpX b => exact readOp_quiet compareA_quiet e
  | decZpX b => exact rmwOp_quiet setZNof_quiet e
  | dcpZpX b => exact rmwOp_quiet compareA_quiet e
  | cld => exact impliedOp_quiet (s.setFlags_quiet _) e
  | cmpAbsY a => exact readOp_quiet compareA_quiet e
  | nopImpDA => exact impliedOp_quiet (.refl s) e
  | dcpAbsY a => exact rmwOp_quiet compareA_quiet e
  | nopAbsXDC a => exact readOp_quiet discard_quiet e
  | cmpAbsX a => exact readOp_quiet compareA_quiet e
  | decAbsX a => exact rmwOp_quiet setZNof_quiet e
  | dcpAbsX a => exact rmwOp_quiet compareA_quiet e
  | cpxImm b => exact readOp_quiet compareX_quiet e
  | sbcIndX b => exact readOp_quiet subtractA_quiet e
  | nopImmE2 b => exact readOp_quiet discard_quiet e
  | isbIndX b => exact rmwOp_quiet subtractA_quiet e
  | cpxZp b => exact readOp_quiet compareX_quiet e
  | sbcZp b => exact readOp_quiet subtractA_quiet e
  | incZp b => exact rmwOp_quiet setZNof_quiet e
  | isbZp b => exact rmwOp_quiet subtractA_quiet e
  | inx => exact impliedOp_quiet ((s.setX_quiet _).trans (State.setZN_quiet _ _)) e
  | sbcImm b => exact readOp_quiet subtractA_quiet e
  | nop => exact impliedOp_quiet (.refl s) e
  | sbcImmEB b => exact readOp_quiet subtractA_quiet e
  | cpxAbs a => exact readOp_quiet compareX_quiet e
  | sbcAbs a => exact readOp_quiet subtractA_quiet e
  | incAbs a => exact rmwOp_quiet setZNof_quiet e
  | isbAbs a => exact rmwOp_quiet subtractA_quiet e
  | beq b => exact branchOp_quiet (cond := fun f => f.z) e
  | sbcIndY b => exact readOp_quiet subtractA_quiet e
  | jamF2 => exact nomatch e
  | isbIndY b => exact rmwOp_quiet subtractA_quiet e
  | nopZpXF4 b => exact readOp_quiet discard_quiet e
  | sbcZpX b => exact readOp_quiet subtractA_quiet e
  | incZpX b => exact rmwOp_quiet setZNof_quiet e
  | isbZpX b => exact rmwOp_quiet subtractA_quiet e
  | sed => exact impliedOp_quiet (s.setFlags_quiet _) e
  | sbcAbsY a => exact readOp_quiet subtractA_quiet e
  | nopImpFA => exact impliedOp_quiet (.refl s) e
  | isbAbsY a => exact rmwOp_quiet subtractA_quiet e
  | nopAbsXFC a => exact readOp_quiet discard_quiet e
  | sbcAbsX a => exact readOp_quiet subtractA_quiet e
  | incAbsX a => exact rmwOp_quiet setZNof_quiet e
  | isbAbsX a => exact rmwOp_quiet subtractA_quiet e

end Sys2Proof.Machine
end

