-- ==== Sys2Proof/Laws/PerInstr.lean ====
section
/-! SUPPORT. Laws stated for every instruction, one lemma per constructor. -/

namespace Sys2Proof.Laws.EncodedLength

/-- The encoding of `i` is as long as its row of the decode table says (R300, R403). -/
def Statement (i : Instr) : Prop := (encode i).length = i.row.length

theorem brk : Statement (.brk) := show 1 = (rowOf 0x00).length from rfl
theorem oraIndX (b : Byte) : Statement (.oraIndX b) := show 2 = (rowOf 0x01).length from rfl
theorem jam02 : Statement (.jam02) := show 1 = (rowOf 0x02).length from rfl
theorem sloIndX (b : Byte) : Statement (.sloIndX b) := show 2 = (rowOf 0x03).length from rfl
theorem nopZp04 (b : Byte) : Statement (.nopZp04 b) := show 2 = (rowOf 0x04).length from rfl
theorem oraZp (b : Byte) : Statement (.oraZp b) := show 2 = (rowOf 0x05).length from rfl
theorem aslZp (b : Byte) : Statement (.aslZp b) := show 2 = (rowOf 0x06).length from rfl
theorem sloZp (b : Byte) : Statement (.sloZp b) := show 2 = (rowOf 0x07).length from rfl
theorem php : Statement (.php) := show 1 = (rowOf 0x08).length from rfl
theorem oraImm (b : Byte) : Statement (.oraImm b) := show 2 = (rowOf 0x09).length from rfl
theorem aslAcc : Statement (.aslAcc) := show 1 = (rowOf 0x0A).length from rfl
theorem ancImm0B (b : Byte) : Statement (.ancImm0B b) := show 2 = (rowOf 0x0B).length from rfl
theorem nopAbs0C (a : Word) : Statement (.nopAbs0C a) := show 3 = (rowOf 0x0C).length from rfl
theorem oraAbs (a : Word) : Statement (.oraAbs a) := show 3 = (rowOf 0x0D).length from rfl
theorem aslAbs (a : Word) : Statement (.aslAbs a) := show 3 = (rowOf 0x0E).length from rfl
theorem sloAbs (a : Word) : Statement (.sloAbs a) := show 3 = (rowOf 0x0F).length from rfl
theorem bpl (b : Byte) : Statement (.bpl b) := show 2 = (rowOf 0x10).length from rfl
theorem oraIndY (b : Byte) : Statement (.oraIndY b) := show 2 = (rowOf 0x11).length from rfl
theorem jam12 : Statement (.jam12) := show 1 = (rowOf 0x12).length from rfl
theorem sloIndY (b : Byte) : Statement (.sloIndY b) := show 2 = (rowOf 0x13).length from rfl
theorem nopZpX14 (b : Byte) : Statement (.nopZpX14 b) := show 2 = (rowOf 0x14).length from rfl
theorem oraZpX (b : Byte) : Statement (.oraZpX b) := show 2 = (rowOf 0x15).length from rfl
theorem aslZpX (b : Byte) : Statement (.aslZpX b) := show 2 = (rowOf 0x16).length from rfl
theorem sloZpX (b : Byte) : Statement (.sloZpX b) := show 2 = (rowOf 0x17).length from rfl
theorem clc : Statement (.clc) := show 1 = (rowOf 0x18).length from rfl
theorem oraAbsY (a : Word) : Statement (.oraAbsY a) := show 3 = (rowOf 0x19).length from rfl
theorem nopImp1A : Statement (.nopImp1A) := show 1 = (rowOf 0x1A).length from rfl
theorem sloAbsY (a : Word) : Statement (.sloAbsY a) := show 3 = (rowOf 0x1B).length from rfl
theorem nopAbsX1C (a : Word) : Statement (.nopAbsX1C a) := show 3 = (rowOf 0x1C).length from rfl
theorem oraAbsX (a : Word) : Statement (.oraAbsX a) := show 3 = (rowOf 0x1D).length from rfl
theorem aslAbsX (a : Word) : Statement (.aslAbsX a) := show 3 = (rowOf 0x1E).length from rfl
theorem sloAbsX (a : Word) : Statement (.sloAbsX a) := show 3 = (rowOf 0x1F).length from rfl
theorem jsrAbs (a : Word) : Statement (.jsrAbs a) := show 3 = (rowOf 0x20).length from rfl
theorem andIndX (b : Byte) : Statement (.andIndX b) := show 2 = (rowOf 0x21).length from rfl
theorem jam22 : Statement (.jam22) := show 1 = (rowOf 0x22).length from rfl
theorem rlaIndX (b : Byte) : Statement (.rlaIndX b) := show 2 = (rowOf 0x23).length from rfl
theorem bitZp (b : Byte) : Statement (.bitZp b) := show 2 = (rowOf 0x24).length from rfl
theorem andZp (b : Byte) : Statement (.andZp b) := show 2 = (rowOf 0x25).length from rfl
theorem rolZp (b : Byte) : Statement (.rolZp b) := show 2 = (rowOf 0x26).length from rfl
theorem rlaZp (b : Byte) : Statement (.rlaZp b) := show 2 = (rowOf 0x27).length from rfl
theorem plp : Statement (.plp) := show 1 = (rowOf 0x28).length from rfl
theorem andImm (b : Byte) : Statement (.andImm b) := show 2 = (rowOf 0x29).length from rfl
theorem rolAcc : Statement (.rolAcc) := show 1 = (rowOf 0x2A).length from rfl
theorem ancImm2B (b : Byte) : Statement (.ancImm2B b) := show 2 = (rowOf 0x2B).length from rfl
theorem bitAbs (a : Word) : Statement (.bitAbs a) := show 3 = (rowOf 0x2C).length from rfl
theorem andAbs (a : Word) : Statement (.andAbs a) := show 3 = (rowOf 0x2D).length from rfl
theorem rolAbs (a : Word) : Statement (.rolAbs a) := show 3 = (rowOf 0x2E).length from rfl
theorem rlaAbs (a : Word) : Statement (.rlaAbs a) := show 3 = (rowOf 0x2F).length from rfl
theorem bmi (b : Byte) : Statement (.bmi b) := show 2 = (rowOf 0x30).length from rfl
theorem andIndY (b : Byte) : Statement (.andIndY b) := show 2 = (rowOf 0x31).length from rfl
theorem jam32 : Statement (.jam32) := show 1 = (rowOf 0x32).length from rfl
theorem rlaIndY (b : Byte) : Statement (.rlaIndY b) := show 2 = (rowOf 0x33).length from rfl
theorem nopZpX34 (b : Byte) : Statement (.nopZpX34 b) := show 2 = (rowOf 0x34).length from rfl
theorem andZpX (b : Byte) : Statement (.andZpX b) := show 2 = (rowOf 0x35).length from rfl
theorem rolZpX (b : Byte) : Statement (.rolZpX b) := show 2 = (rowOf 0x36).length from rfl
theorem rlaZpX (b : Byte) : Statement (.rlaZpX b) := show 2 = (rowOf 0x37).length from rfl
theorem sec : Statement (.sec) := show 1 = (rowOf 0x38).length from rfl
theorem andAbsY (a : Word) : Statement (.andAbsY a) := show 3 = (rowOf 0x39).length from rfl
theorem nopImp3A : Statement (.nopImp3A) := show 1 = (rowOf 0x3A).length from rfl
theorem rlaAbsY (a : Word) : Statement (.rlaAbsY a) := show 3 = (rowOf 0x3B).length from rfl
theorem nopAbsX3C (a : Word) : Statement (.nopAbsX3C a) := show 3 = (rowOf 0x3C).length from rfl
theorem andAbsX (a : Word) : Statement (.andAbsX a) := show 3 = (rowOf 0x3D).length from rfl
theorem rolAbsX (a : Word) : Statement (.rolAbsX a) := show 3 = (rowOf 0x3E).length from rfl
theorem rlaAbsX (a : Word) : Statement (.rlaAbsX a) := show 3 = (rowOf 0x3F).length from rfl
theorem rti : Statement (.rti) := show 1 = (rowOf 0x40).length from rfl
theorem eorIndX (b : Byte) : Statement (.eorIndX b) := show 2 = (rowOf 0x41).length from rfl
theorem jam42 : Statement (.jam42) := show 1 = (rowOf 0x42).length from rfl
theorem sreIndX (b : Byte) : Statement (.sreIndX b) := show 2 = (rowOf 0x43).length from rfl
theorem nopZp44 (b : Byte) : Statement (.nopZp44 b) := show 2 = (rowOf 0x44).length from rfl
theorem eorZp (b : Byte) : Statement (.eorZp b) := show 2 = (rowOf 0x45).length from rfl
theorem lsrZp (b : Byte) : Statement (.lsrZp b) := show 2 = (rowOf 0x46).length from rfl
theorem sreZp (b : Byte) : Statement (.sreZp b) := show 2 = (rowOf 0x47).length from rfl
theorem pha : Statement (.pha) := show 1 = (rowOf 0x48).length from rfl
theorem eorImm (b : Byte) : Statement (.eorImm b) := show 2 = (rowOf 0x49).length from rfl
theorem lsrAcc : Statement (.lsrAcc) := show 1 = (rowOf 0x4A).length from rfl
theorem alrImm (b : Byte) : Statement (.alrImm b) := show 2 = (rowOf 0x4B).length from rfl
theorem jmpAbs (a : Word) : Statement (.jmpAbs a) := show 3 = (rowOf 0x4C).length from rfl
theorem eorAbs (a : Word) : Statement (.eorAbs a) := show 3 = (rowOf 0x4D).length from rfl
theorem lsrAbs (a : Word) : Statement (.lsrAbs a) := show 3 = (rowOf 0x4E).length from rfl
theorem sreAbs (a : Word) : Statement (.sreAbs a) := show 3 = (rowOf 0x4F).length from rfl
theorem bvc (b : Byte) : Statement (.bvc b) := show 2 = (rowOf 0x50).length from rfl
theorem eorIndY (b : Byte) : Statement (.eorIndY b) := show 2 = (rowOf 0x51).length from rfl
theorem jam52 : Statement (.jam52) := show 1 = (rowOf 0x52).length from rfl
theorem sreIndY (b : Byte) : Statement (.sreIndY b) := show 2 = (rowOf 0x53).length from rfl
theorem nopZpX54 (b : Byte) : Statement (.nopZpX54 b) := show 2 = (rowOf 0x54).length from rfl
theorem eorZpX (b : Byte) : Statement (.eorZpX b) := show 2 = (rowOf 0x55).length from rfl
theorem lsrZpX (b : Byte) : Statement (.lsrZpX b) := show 2 = (rowOf 0x56).length from rfl
theorem sreZpX (b : Byte) : Statement (.sreZpX b) := show 2 = (rowOf 0x57).length from rfl
theorem cli : Statement (.cli) := show 1 = (rowOf 0x58).length from rfl
theorem eorAbsY (a : Word) : Statement (.eorAbsY a) := show 3 = (rowOf 0x59).length from rfl
theorem nopImp5A : Statement (.nopImp5A) := show 1 = (rowOf 0x5A).length from rfl
theorem sreAbsY (a : Word) : Statement (.sreAbsY a) := show 3 = (rowOf 0x5B).length from rfl
theorem nopAbsX5C (a : Word) : Statement (.nopAbsX5C a) := show 3 = (rowOf 0x5C).length from rfl
theorem eorAbsX (a : Word) : Statement (.eorAbsX a) := show 3 = (rowOf 0x5D).length from rfl
theorem lsrAbsX (a : Word) : Statement (.lsrAbsX a) := show 3 = (rowOf 0x5E).length from rfl
theorem sreAbsX (a : Word) : Statement (.sreAbsX a) := show 3 = (rowOf 0x5F).length from rfl
theorem rts : Statement (.rts) := show 1 = (rowOf 0x60).length from rfl
theorem adcIndX (b : Byte) : Statement (.adcIndX b) := show 2 = (rowOf 0x61).length from rfl
theorem jam62 : Statement (.jam62) := show 1 = (rowOf 0x62).length from rfl
theorem rraIndX (b : Byte) : Statement (.rraIndX b) := show 2 = (rowOf 0x63).length from rfl
theorem nopZp64 (b : Byte) : Statement (.nopZp64 b) := show 2 = (rowOf 0x64).length from rfl
theorem adcZp (b : Byte) : Statement (.adcZp b) := show 2 = (rowOf 0x65).length from rfl
theorem rorZp (b : Byte) : Statement (.rorZp b) := show 2 = (rowOf 0x66).length from rfl
theorem rraZp (b : Byte) : Statement (.rraZp b) := show 2 = (rowOf 0x67).length from rfl
theorem pla : Statement (.pla) := show 1 = (rowOf 0x68).length from rfl
theorem adcImm (b : Byte) : Statement (.adcImm b) := show 2 = (rowOf 0x69).length from rfl
theorem rorAcc : Statement (.rorAcc) := show 1 = (rowOf 0x6A).length from rfl
theorem arrImm (b : Byte) : Statement (.arrImm b) := show 2 = (rowOf 0x6B).length from rfl
theorem jmpInd (a : Word) : Statement (.jmpInd a) := show 3 = (rowOf 0x6C).length from rfl
theorem adcAbs (a : Word) : Statement (.adcAbs a) := show 3 = (rowOf 0x6D).length from rfl
theorem rorAbs (a : Word) : Statement (.rorAbs a) := show 3 = (rowOf 0x6E).length from rfl
theorem rraAbs (a : Word) : Statement (.rraAbs a) := show 3 = (rowOf 0x6F).length from rfl
theorem bvs (b : Byte) : Statement (.bvs b) := show 2 = (rowOf 0x70).length from rfl
theorem adcIndY (b : Byte) : Statement (.adcIndY b) := show 2 = (rowOf 0x71).length from rfl
theorem jam72 : Statement (.jam72) := show 1 = (rowOf 0x72).length from rfl
theorem rraIndY (b : Byte) : Statement (.rraIndY b) := show 2 = (rowOf 0x73).length from rfl
theorem nopZpX74 (b : Byte) : Statement (.nopZpX74 b) := show 2 = (rowOf 0x74).length from rfl
theorem adcZpX (b : Byte) : Statement (.adcZpX b) := show 2 = (rowOf 0x75).length from rfl
theorem rorZpX (b : Byte) : Statement (.rorZpX b) := show 2 = (rowOf 0x76).length from rfl
theorem rraZpX (b : Byte) : Statement (.rraZpX b) := show 2 = (rowOf 0x77).length from rfl
theorem sei : Statement (.sei) := show 1 = (rowOf 0x78).length from rfl
theorem adcAbsY (a : Word) : Statement (.adcAbsY a) := show 3 = (rowOf 0x79).length from rfl
theorem nopImp7A : Statement (.nopImp7A) := show 1 = (rowOf 0x7A).length from rfl
theorem rraAbsY (a : Word) : Statement (.rraAbsY a) := show 3 = (rowOf 0x7B).length from rfl
theorem nopAbsX7C (a : Word) : Statement (.nopAbsX7C a) := show 3 = (rowOf 0x7C).length from rfl
theorem adcAbsX (a : Word) : Statement (.adcAbsX a) := show 3 = (rowOf 0x7D).length from rfl
theorem rorAbsX (a : Word) : Statement (.rorAbsX a) := show 3 = (rowOf 0x7E).length from rfl
theorem rraAbsX (a : Word) : Statement (.rraAbsX a) := show 3 = (rowOf 0x7F).length from rfl
theorem nopImm80 (b : Byte) : Statement (.nopImm80 b) := show 2 = (rowOf 0x80).length from rfl
theorem staIndX (b : Byte) : Statement (.staIndX b) := show 2 = (rowOf 0x81).length from rfl
theorem nopImm82 (b : Byte) : Statement (.nopImm82 b) := show 2 = (rowOf 0x82).length from rfl
theorem saxIndX (b : Byte) : Statement (.saxIndX b) := show 2 = (rowOf 0x83).length from rfl
theorem styZp (b : Byte) : Statement (.styZp b) := show 2 = (rowOf 0x84).length from rfl
theorem staZp (b : Byte) : Statement (.staZp b) := show 2 = (rowOf 0x85).length from rfl
theorem stxZp (b : Byte) : Statement (.stxZp b) := show 2 = (rowOf 0x86).length from rfl
theorem saxZp (b : Byte) : Statement (.saxZp b) := show 2 = (rowOf 0x87).length from rfl
theorem dey : Statement (.dey) := show 1 = (rowOf 0x88).length from rfl
theorem nopImm89 (b : Byte) : Statement (.nopImm89 b) := show 2 = (rowOf 0x89).length from rfl
theorem txa : Statement (.txa) := show 1 = (rowOf 0x8A).length from rfl
theorem xaa8B : Statement (.xaa8B) := show 1 = (rowOf 0x8B).length from rfl
theorem styAbs (a : Word) : Statement (.styAbs a) := show 3 = (rowOf 0x8C).length from rfl
theorem staAbs (a : Word) : Statement (.staAbs a) := show 3 = (rowOf 0x8D).length from rfl
theorem stxAbs (a : Word) : Statement (.stxAbs a) := show 3 = (rowOf 0x8E).length from rfl
theorem saxAbs (a : Word) : Statement (.saxAbs a) := show 3 = (rowOf 0x8F).length from rfl
theorem bcc (b : Byte) : Statement (.bcc b) := show 2 = (rowOf 0x90).length from rfl
theorem staIndY (b : Byte) : Statement (.staIndY b) := show 2 = (rowOf 0x91).length from rfl
theorem jam92 : Statement (.jam92) := show 1 = (rowOf 0x92).length from rfl
theorem sha93 : Statement (.sha93) := show 1 = (rowOf 0x93).length from rfl
theorem styZpX (b : Byte) : Statement (.styZpX b) := show 2 = (rowOf 0x94).length from rfl
theorem staZpX (b : Byte) : Statement (.staZpX b) := show 2 = (rowOf 0x95).length from rfl
theorem stxZpY (b : Byte) : Statement (.stxZpY b) := show 2 = (rowOf 0x96).length from rfl
theorem saxZpY (b : Byte) : Statement (.saxZpY b) := show 2 = (rowOf 0x97).length from rfl
theorem tya : Statement (.tya) := show 1 = (rowOf 0x98).length from rfl
theorem staAbsY (a : Word) : Statement (.staAbsY a) := show 3 = (rowOf 0x99).length from rfl
theorem txs : Statement (.txs) := show 1 = (rowOf 0x9A).length from rfl
theorem tas9B : Statement (.tas9B) := show 1 = (rowOf 0x9B).length from rfl
theorem shy9C : Statement (.shy9C) := show 1 = (rowOf 0x9C).length from rfl
theorem staAbsX (a : Word) : Statement (.staAbsX a) := show 3 = (rowOf 0x9D).length from rfl
theorem shx9E : Statement (.shx9E) := show 1 = (rowOf 0x9E).length from rfl
theorem sha9F : Statement (.sha9F) := show 1 = (rowOf 0x9F).length from rfl
theorem ldyImm (b : Byte) : Statement (.ldyImm b) := show 2 = (rowOf 0xA0).length from rfl
theorem ldaIndX (b : Byte) : Statement (.ldaIndX b) := show 2 = (rowOf 0xA1).length from rfl
theorem ldxImm (b : Byte) : Statement (.ldxImm b) := show 2 = (rowOf 0xA2).length from rfl
theorem laxIndX (b : Byte) : Statement (.laxIndX b) := show 2 = (rowOf 0xA3).length from rfl
theorem ldyZp (b : Byte) : Statement (.ldyZp b) := show 2 = (rowOf 0xA4).length from rfl
theorem ldaZp (b : Byte) : Statement (.ldaZp b) := show 2 = (rowOf 0xA5).length from rfl
theorem ldxZp (b : Byte) : Statement (.ldxZp b) := show 2 = (rowOf 0xA6).length from rfl
theorem laxZp (b : Byte) : Statement (.laxZp b) := show 2 = (rowOf 0xA7).length from rfl
theorem tay : Statement (.tay) := show 1 = (rowOf 0xA8).length from rfl
theorem ldaImm (b : Byte) : Statement (.ldaImm b) := show 2 = (rowOf 0xA9).length from rfl
theorem tax : Statement (.tax) := show 1 = (rowOf 0xAA).length from rfl
theorem lxaAB : Statement (.lxaAB) := show 1 = (rowOf 0xAB).length from rfl
theorem ldyAbs (a : Word) : Statement (.ldyAbs a) := show 3 = (rowOf 0xAC).length from rfl
theorem ldaAbs (a : Word) : Statement (.ldaAbs a) := show 3 = (rowOf 0xAD).length from rfl
theorem ldxAbs (a : Word) : Statement (.ldxAbs a) := show 3 = (rowOf 0xAE).length from rfl
theorem laxAbs (a : Word) : Statement (.laxAbs a) := show 3 = (rowOf 0xAF).length from rfl
theorem bcs (b : Byte) : Statement (.bcs b) := show 2 = (rowOf 0xB0).length from rfl
theorem ldaIndY (b : Byte) : Statement (.ldaIndY b) := show 2 = (rowOf 0xB1).length from rfl
theorem jamB2 : Statement (.jamB2) := show 1 = (rowOf 0xB2).length from rfl
theorem laxIndY (b : Byte) : Statement (.laxIndY b) := show 2 = (rowOf 0xB3).length from rfl
theorem ldyZpX (b : Byte) : Statement (.ldyZpX b) := show 2 = (rowOf 0xB4).length from rfl
theorem ldaZpX (b : Byte) : Statement (.ldaZpX b) := show 2 = (rowOf 0xB5).length from rfl
theorem ldxZpY (b : Byte) : Statement (.ldxZpY b) := show 2 = (rowOf 0xB6).length from rfl
theorem laxZpY (b : Byte) : Statement (.laxZpY b) := show 2 = (rowOf 0xB7).length from rfl
theorem clv : Statement (.clv) := show 1 = (rowOf 0xB8).length from rfl
theorem ldaAbsY (a : Word) : Statement (.ldaAbsY a) := show 3 = (rowOf 0xB9).length from rfl
theorem tsx : Statement (.tsx) := show 1 = (rowOf 0xBA).length from rfl
theorem lasBB : Statement (.lasBB) := show 1 = (rowOf 0xBB).length from rfl
theorem ldyAbsX (a : Word) : Statement (.ldyAbsX a) := show 3 = (rowOf 0xBC).length from rfl
theorem ldaAbsX (a : Word) : Statement (.ldaAbsX a) := show 3 = (rowOf 0xBD).length from rfl
theorem ldxAbsY (a : Word) : Statement (.ldxAbsY a) := show 3 = (rowOf 0xBE).length from rfl
theorem laxAbsY (a : Word) : Statement (.laxAbsY a) := show 3 = (rowOf 0xBF).length from rfl
theorem cpyImm (b : Byte) : Statement (.cpyImm b) := show 2 = (rowOf 0xC0).length from rfl
theorem cmpIndX (b : Byte) : Statement (.cmpIndX b) := show 2 = (rowOf 0xC1).length from rfl
theorem nopImmC2 (b : Byte) : Statement (.nopImmC2 b) := show 2 = (rowOf 0xC2).length from rfl
theorem dcpIndX (b : Byte) : Statement (.dcpIndX b) := show 2 = (rowOf 0xC3).length from rfl
theorem cpyZp (b : Byte) : Statement (.cpyZp b) := show 2 = (rowOf 0xC4).length from rfl
theorem cmpZp (b : Byte) : Statement (.cmpZp b) := show 2 = (rowOf 0xC5).length from rfl
theorem decZp (b : Byte) : Statement (.decZp b) := show 2 = (rowOf 0xC6).length from rfl
theorem dcpZp (b : Byte) : Statement (.dcpZp b) := show 2 = (rowOf 0xC7).length from rfl
theorem iny : Statement (.iny) := show 1 = (rowOf 0xC8).length from rfl
theorem cmpImm (b : Byte) : Statement (.cmpImm b) := show 2 = (rowOf 0xC9).length from rfl
theorem dex : Statement (.dex) := show 1 = (rowOf 0xCA).length from rfl
theorem axsImm (b : Byte) : Statement (.axsImm b) := show 2 = (rowOf 0xCB).length from rfl
theorem cpyAbs (a : Word) : Statement (.cpyAbs a) := show 3 = (rowOf 0xCC).length from rfl
theorem cmpAbs (a : Word) : Statement (.cmpAbs a) := show 3 = (rowOf 0xCD).length from rfl
theorem decAbs (a : Word) : Statement (.decAbs a) := show 3 = (rowOf 0xCE).length from rfl
theorem dcpAbs (a : Word) : Statement (.dcpAbs a) := show 3 = (rowOf 0xCF).length from rfl
theorem bne (b : Byte) : Statement (.bne b) := show 2 = (rowOf 0xD0).length from rfl
theorem cmpIndY (b : Byte) : Statement (.cmpIndY b) := show 2 = (rowOf 0xD1).length from rfl
theorem jamD2 : Statement (.jamD2) := show 1 = (rowOf 0xD2).length from rfl
theorem dcpIndY (b : Byte) : Statement (.dcpIndY b) := show 2 = (rowOf 0xD3).length from rfl
theorem nopZpXD4 (b : Byte) : Statement (.nopZpXD4 b) := show 2 = (rowOf 0xD4).length from rfl
theorem cmpZpX (b : Byte) : Statement (.cmpZpX b) := show 2 = (rowOf 0xD5).length from rfl
theorem decZpX (b : Byte) : Statement (.decZpX b) := show 2 = (rowOf 0xD6).length from rfl
theorem dcpZpX (b : Byte) : Statement (.dcpZpX b) := show 2 = (rowOf 0xD7).length from rfl
theorem cld : Statement (.cld) := show 1 = (rowOf 0xD8).length from rfl
theorem cmpAbsY (a : Word) : Statement (.cmpAbsY a) := show 3 = (rowOf 0xD9).length from rfl
theorem nopImpDA : Statement (.nopImpDA) := show 1 = (rowOf 0xDA).length from rfl
theorem dcpAbsY (a : Word) : Statement (.dcpAbsY a) := show 3 = (rowOf 0xDB).length from rfl
theorem nopAbsXDC (a : Word) : Statement (.nopAbsXDC a) := show 3 = (rowOf 0xDC).length from rfl
theorem cmpAbsX (a : Word) : Statement (.cmpAbsX a) := show 3 = (rowOf 0xDD).length from rfl
theorem decAbsX (a : Word) : Statement (.decAbsX a) := show 3 = (rowOf 0xDE).length from rfl
theorem dcpAbsX (a : Word) : Statement (.dcpAbsX a) := show 3 = (rowOf 0xDF).length from rfl
theorem cpxImm (b : Byte) : Statement (.cpxImm b) := show 2 = (rowOf 0xE0).length from rfl
theorem sbcIndX (b : Byte) : Statement (.sbcIndX b) := show 2 = (rowOf 0xE1).length from rfl
theorem nopImmE2 (b : Byte) : Statement (.nopImmE2 b) := show 2 = (rowOf 0xE2).length from rfl
theorem isbIndX (b : Byte) : Statement (.isbIndX b) := show 2 = (rowOf 0xE3).length from rfl
theorem cpxZp (b : Byte) : Statement (.cpxZp b) := show 2 = (rowOf 0xE4).length from rfl
theorem sbcZp (b : Byte) : Statement (.sbcZp b) := show 2 = (rowOf 0xE5).length from rfl
theorem incZp (b : Byte) : Statement (.incZp b) := show 2 = (rowOf 0xE6).length from rfl
theorem isbZp (b : Byte) : Statement (.isbZp b) := show 2 = (rowOf 0xE7).length from rfl
theorem inx : Statement (.inx) := show 1 = (rowOf 0xE8).length from rfl
theorem sbcImm (b : Byte) : Statement (.sbcImm b) := show 2 = (rowOf 0xE9).length from rfl
theorem nop : Statement (.nop) := show 1 = (rowOf 0xEA).length from rfl
theorem sbcImmEB (b : Byte) : Statement (.sbcImmEB b) := show 2 = (rowOf 0xEB).length from rfl
theorem cpxAbs (a : Word) : Statement (.cpxAbs a) := show 3 = (rowOf 0xEC).length from rfl
theorem sbcAbs (a : Word) : Statement (.sbcAbs a) := show 3 = (rowOf 0xED).length from rfl
theorem incAbs (a : Word) : Statement (.incAbs a) := show 3 = (rowOf 0xEE).length from rfl
theorem isbAbs (a : Word) : Statement (.isbAbs a) := show 3 = (rowOf 0xEF).length from rfl
theorem beq (b : Byte) : Statement (.beq b) := show 2 = (rowOf 0xF0).length from rfl
theorem sbcIndY (b : Byte) : Statement (.sbcIndY b) := show 2 = (rowOf 0xF1).length from rfl
theorem jamF2 : Statement (.jamF2) := show 1 = (rowOf 0xF2).length from rfl
theorem isbIndY (b : Byte) : Statement (.isbIndY b) := show 2 = (rowOf 0xF3).length from rfl
theorem nopZpXF4 (b : Byte) : Statement (.nopZpXF4 b) := show 2 = (rowOf 0xF4).length from rfl
theorem sbcZpX (b : Byte) : Statement (.sbcZpX b) := show 2 = (rowOf 0xF5).length from rfl
theorem incZpX (b : Byte) : Statement (.incZpX b) := show 2 = (rowOf 0xF6).length from rfl
theorem isbZpX (b : Byte) : Statement (.isbZpX b) := show 2 = (rowOf 0xF7).length from rfl
theorem sed : Statement (.sed) := show 1 = (rowOf 0xF8).length from rfl
theorem sbcAbsY (a : Word) : Statement (.sbcAbsY a) := show 3 = (rowOf 0xF9).length from rfl
theorem nopImpFA : Statement (.nopImpFA) := show 1 = (rowOf 0xFA).length from rfl
theorem isbAbsY (a : Word) : Statement (.isbAbsY a) := show 3 = (rowOf 0xFB).length from rfl
theorem nopAbsXFC (a : Word) : Statement (.nopAbsXFC a) := show 3 = (rowOf 0xFC).length from rfl
theorem sbcAbsX (a : Word) : Statement (.sbcAbsX a) := show 3 = (rowOf 0xFD).length from rfl
theorem incAbsX (a : Word) : Statement (.incAbsX a) := show 3 = (rowOf 0xFE).length from rfl
theorem isbAbsX (a : Word) : Statement (.isbAbsX a) := show 3 = (rowOf 0xFF).length from rfl

end Sys2Proof.Laws.EncodedLength
end

