-- ==== Sys2Proof/Laws/Reset.lean ====
section
/-! SUPPORT. Reset (spec 70 R1000, R1001): what it leaves, and that `State.reset` is a reset of the machine powered on
with the blank cartridge. -/

namespace Sys2Proof.Machine

/-- `State.reset` is what powering on with the default settings, MEM_INIT zero and the blank cartridge of log 2, and then
`Reset()`, gives. -/
theorem powerOn_resetMachine : (State.powerOn {} {} {}).resetMachine = State.reset := rfl

/-- Every memory of the machine right after reset is in canonical form. -/
theorem reset_memories_wf :
    State.reset.bus.ram.wf ∧ State.reset.ppu.ntRam.wf ∧ State.reset.ppu.palette.wf ∧ State.reset.ppu.oam.wf ∧
    State.reset.ppu.oam2.wf ∧ State.reset.cart.prgRom.wf ∧ State.reset.cart.chr.wf ∧ State.reset.cart.prgRam.wf := by
  decide

/-- The pixels the reset tick composes: the first twenty of row 0, in the universal background colour (R1001). -/
def resetPixels (p : BitVec 32) (f : Framebuffer) : Framebuffer :=
  (List.range 20).foldl (fun g x => g.set 0 x p) f

/-- The universal background colour (R840): palette entry 0. -/
def Ppu.backdrop (p : Ppu) : BitVec 32 := 0xFF#8 ++ Config.ntscPalette ((p.palette.get 0).setWidth 6)

/-- One dot with rendering off, on row 0 (R750, R840): the backdrop is composed, the place moves on. -/
theorem Video.tick_blank (b : Video) (hm : b.ppu.mask = 0) (hs : b.ppu.scanline = 0) (hd : b.ppu.dot ≤ 255) :
    b.tick = { b with ppu := { b.ppu with
      dot := b.ppu.dot + 1
      framebuffer := if 1 ≤ b.ppu.dot then b.ppu.framebuffer.set 0 (b.ppu.dot - 1) b.ppu.backdrop
        else b.ppu.framebuffer } } := by
  have hbg (x : Nat) : b.ppu.backgroundPixel x = {} := by simp [Ppu.backgroundPixel, hm, bit]
  have hsp (x : Nat) : b.ppu.spriteAt x = none := by simp [Ppu.spriteAt, hm, bit]
  have hz (x : Nat) : b.ppu.spriteZeroAt x = false := by simp [Ppu.spriteZeroAt, hsp]
  have hc (x : Nat) : b.ppu.chosenPixel x = {} := by simp [Ppu.chosenPixel, hsp, hbg]
  have hpix : b.ppu.pixelStep = { b.ppu with
      framebuffer := if 1 ≤ b.ppu.dot then b.ppu.framebuffer.set 0 (b.ppu.dot - 1) b.ppu.backdrop
        else b.ppu.framebuffer } := by
    unfold Ppu.pixelStep
    by_cases h1 : 1 ≤ b.ppu.dot
    · rw [if_pos ⟨by omega, h1, by omega⟩]
      unfold Ppu.composePixel
      rw [hz, hc, Bool.or_false, if_pos h1]
      simp only [hs]
      rfl
    · rw [if_neg (fun h => h1 h.2.1), if_neg h1]
  have hren (q : Framebuffer) : Ppu.renderingEnabled { b.ppu with framebuffer := q } = false := by
    simp [Ppu.renderingEnabled, hm, bit]
  unfold Video.tick Video.renderStep
  simp only [hpix, hren, Bool.false_eq_true, and_false, if_false]
  unfold Ppu.updateStatus Ppu.startsVBlank Ppu.advance
  simp only [hs, show ¬ (0 = 241) by omega, show ¬ (0 = 261) by omega, false_and, decide_false, Bool.false_eq_true,
    if_false, show b.ppu.dot + 1 ≤ 340 by omega, if_true]

/-- One dot of the machine with rendering off, on row 0. -/
theorem State.ppuTick_blank (s : State) (hm : s.ppu.mask = 0) (hs : s.ppu.scanline = 0) (hd : s.ppu.dot ≤ 255) :
    s.ppuTick = { s with ppu := { s.ppu with
      dot := s.ppu.dot + 1
      framebuffer := if 1 ≤ s.ppu.dot then s.ppu.framebuffer.set 0 (s.ppu.dot - 1) s.ppu.backdrop
        else s.ppu.framebuffer } } := by
  unfold State.ppuTick
  rw [Video.tick_blank ⟨s.ppu, s.cart, s.settings⟩ hm hs hd]
  simp only [Ppu.startsVBlank, hs, show ¬ (0 = 241) by omega, false_and, decide_false, Bool.false_and, Bool.or_false]

/-- The APU cycle of a DMC that has nothing to read. -/
theorem State.apuTick_quiet (s : State) (h : s.apu.everyTimers.dmc.wantsByte = false) :
    s.apuTick = { s with apu := s.apu.everyTimers.finishCycle } := by
  unfold State.apuTick
  simp only [h, Bool.false_eq_true, if_false]

/-- The APU after `n` cycles of a DMC that has nothing to read. -/
def resetApu : Nat → Apu
  | 0 => Apu.reset
  | n + 1 => (resetApu n).everyTimers.finishCycle

/-- The machine `n` CPU cycles after its re-initialisation. -/
def State.afterInit (s : State) (pc : Word) (dots : Nat) (f : Framebuffer) (u : Apu) : State :=
  { cpu := { State.reset.cpu with pc := pc }
    bus := s.bus.reset
    ppu := { s.ppu.reset with dot := dots, framebuffer := f }
    apu := u
    cart := s.cart.mapperReset
    settings := s.settings }

theorem State.afterInit_ppuTick (s : State) (pc : Word) {d : Nat} (hd : 1 ≤ d ∧ d ≤ 255) (f : Framebuffer) (u : Apu) :
    (s.afterInit pc d f u).ppuTick = s.afterInit pc (d + 1) (f.set 0 (d - 1) s.ppu.backdrop) u := by
  rw [State.ppuTick_blank _ rfl rfl hd.2]
  show State.afterInit s pc (d + 1) (if 1 ≤ d then f.set 0 (d - 1) s.ppu.backdrop else f) u = _
  rw [if_pos hd.1]

theorem State.afterInit_ppuTick_zero (s : State) (pc : Word) (f : Framebuffer) (u : Apu) :
    (s.afterInit pc 0 f u).ppuTick = s.afterInit pc 1 f u := by
  rw [State.ppuTick_blank _ rfl rfl (by show 0 ≤ 255; omega)]
  rfl

theorem State.afterInit_apuTick (s : State) (pc : Word) (d : Nat) (f : Framebuffer) {u : Apu}
    (h : u.everyTimers.dmc.wantsByte = false) :
    (s.afterInit pc d f u).apuTick = s.afterInit pc d f u.everyTimers.finishCycle :=
  State.apuTick_quiet _ h

/-- One CPU cycle of it, from a dot past the first. -/
theorem State.afterInit_tickCycle (s : State) (pc : Word) {d : Nat} (hd : 1 ≤ d ∧ d ≤ 253) (f : Framebuffer) (n : Nat)
    (h : (resetApu n).everyTimers.dmc.wantsByte = false) :
    (s.afterInit pc d f (resetApu n)).tickCycle =
      s.afterInit pc (d + 3)
        (((f.set 0 (d - 1) s.ppu.backdrop).set 0 d s.ppu.backdrop).set 0 (d + 1) s.ppu.backdrop)
        (resetApu (n + 1)) := by
  unfold State.tickCycle
  rw [State.afterInit_ppuTick s pc (by omega), State.afterInit_ppuTick s pc (by omega),
    State.afterInit_ppuTick s pc (by omega), State.afterInit_apuTick s pc _ _ h]
  rfl

/-- The first CPU cycle of it. -/
theorem State.afterInit_tickCycle_zero (s : State) (pc : Word) (f : Framebuffer) :
    (s.afterInit pc 0 f (resetApu 0)).tickCycle =
      s.afterInit pc 3 ((f.set 0 0 s.ppu.backdrop).set 0 1 s.ppu.backdrop) (resetApu 1) := by
  unfold State.tickCycle
  rw [State.afterInit_ppuTick_zero, State.afterInit_ppuTick s pc (by omega), State.afterInit_ppuTick s pc (by omega),
    State.afterInit_apuTick s pc _ _ (by decide +kernel)]
  rfl

theorem State.tick_succ (n : Nat) (s : State) : s.tick (n + 1) = s.tickCycle.tick n := rfl

/-- Seven CPU cycles from the re-initialised machine (R1001). -/
theorem State.initialised_tick (s : State) (pc : Word) :
    ((s.initialised.setPc pc).addCycles 7).tick 7 =
      s.afterInit pc 21 (resetPixels s.ppu.backdrop s.ppu.framebuffer) (resetApu 7) := by
  have hw : ∀ n ≤ 6, (resetApu n).everyTimers.dmc.wantsByte = false := by decide +kernel
  have h0 : (s.initialised.setPc pc).addCycles 7 = s.afterInit pc 0 s.ppu.framebuffer (resetApu 0) := rfl
  rw [h0, State.tick_succ, State.afterInit_tickCycle_zero,
    State.tick_succ, State.afterInit_tickCycle s pc (by omega) _ 1 (hw 1 (by omega)),
    State.tick_succ, State.afterInit_tickCycle s pc (by omega) _ 2 (hw 2 (by omega)),
    State.tick_succ, State.afterInit_tickCycle s pc (by omega) _ 3 (hw 3 (by omega)),
    State.tick_succ, State.afterInit_tickCycle s pc (by omega) _ 4 (hw 4 (by omega)),
    State.tick_succ, State.afterInit_tickCycle s pc (by omega) _ 5 (hw 5 (by omega)),
    State.tick_succ, State.afterInit_tickCycle s pc (by omega) _ 6 (hw 6 (by omega))]
  unfold resetPixels
  rw [show List.range 20 = [0, 1, 2, 3, 4, 5, 6, 7, 8, 9, 10, 11, 12, 13, 14, 15, 16, 17, 18, 19] from rfl]
  simp only [List.foldl_cons, List.foldl_nil]
  rfl

theorem resetApu_seven : resetApu 7 = State.reset.apu := by decide +kernel

/-- Everything a reset leaves (R1000, R1001). -/
theorem State.resetMachine_eq (s : State) :
    s.resetMachine =
      { cpu := { State.reset.cpu with
          pc := wordOf (s.initialised.peek resetVector) (s.initialised.peek (resetVector + 1)) }
        bus := s.bus.reset
        ppu := { s.ppu.reset with dot := 21, framebuffer := resetPixels s.ppu.backdrop s.ppu.framebuffer }
        apu := State.reset.apu
        cart := s.cart.mapperReset
        settings := s.settings } := by
  unfold State.resetMachine
  rw [State.read16_rom _ resetVector_le]
  rw [State.initialised_tick, resetApu_seven]
  rfl

/-! ### Reset twice -/

/-- A row of puts is one put of a row. -/
theorem foldl_set_eq (p : BitVec 32) (xs : List Nat) (f : Framebuffer) (r : List (Nat × BitVec 32)) :
    xs.foldl (fun (g : Framebuffer) x => g.set 0 x p) (assocPut 0 r f) =
      assocPut 0 (xs.foldl (fun n x => assocPut x p n) r) f := by
  induction xs generalizing r with
  | nil => rfl
  | cons x xs ih =>
    simp only [List.foldl_cons]
    rw [← ih]
    unfold Framebuffer.set
    rw [assocGet_assocPut_self, Option.getD_some, assocPut_assocPut_self]

/-- Composing the backdrop where it stands changes nothing. -/
theorem resetPixels_idem (p : BitVec 32) (f : Framebuffer) : resetPixels p (resetPixels p f) = resetPixels p f := by
  have h : ∀ g : Framebuffer, resetPixels p g =
      assocPut 0 ((List.range 20).foldl (fun n x => assocPut x p n) ((assocGet 0 g).getD [])) g := by
    intro g
    unfold resetPixels
    rw [show List.range 20 = 0 :: List.range' 1 19 from rfl, List.foldl_cons, List.foldl_cons, ← foldl_set_eq]
    rfl
  rw [h (resetPixels p f), h f, assocGet_assocPut_self, Option.getD_some,
    foldl_assocPut_idem p _ List.pairwise_lt_range, assocPut_assocPut_self]

/-- The mapper's reset, done twice, is the mapper's reset. -/
theorem Cart.mapperReset_idem (c : Cart) : c.mapperReset.mapperReset = c.mapperReset := by
  unfold Cart.mapperReset
  by_cases h : c.isMmc3 = true
  · have h' : ({ c with mmc3 := { mirroring := c.mirroring } } : Cart).isMmc3 = true := h
    simp only [h, h', if_true]
  · simp only [h, if_false, Bool.false_eq_true]

end Sys2Proof.Machine
end

