-- ==== Sys2Proof/Laws/Step.lean ====
section
/-! SUPPORT. The step: the fetch, the cases of a step, and what every step keeps. -/

namespace Sys2Proof.Machine

/-! ### The fetch -/

@[simp] theorem State.fetch_cpu (s : State) : s.fetch.2.cpu = { s.cpu with pc := s.cpu.pc + 1 } := by
  show ({ (s.read s.cpu.pc).2.cpu with pc := s.cpu.pc + 1 } : Cpu) = _
  rw [State.read_cpu]

theorem plainAddress_iff (a : Word) : plainAddress a = true ↔ a.toNat < 0x2000 ∨ 0x6000 ≤ a.toNat := by
  simp only [plainAddress, Bool.or_eq_true, decide_eq_true_eq]

/-- A fetch from plain memory changes nothing but PC. -/
theorem State.fetch_plain (s : State) (h : plainAddress s.cpu.pc = true) :
    s.fetch = (s.peek s.cpu.pc, s.setPc (s.cpu.pc + 1)) := by
  unfold State.fetch
  rw [s.read_plain ((plainAddress_iff _).1 h)]

theorem State.peek_setPc (s : State) (p a : Word) : (s.setPc p).peek a = s.peek a := rfl

theorem State.setPc_setPc (s : State) (p q : Word) : (s.setPc p).setPc q = s.setPc q := rfl

/-- The length of an instruction is 1, 2 or 3. -/
theorem lengthOf_cases (op : Byte) : lengthOf op = 1 ∨ lengthOf op = 2 ∨ lengthOf op = 3 := by
  unfold lengthOf OpRow.length
  cases (rowOf op).form <;> simp [Form.length]

theorem State.fetchInstr_quiet (s : State) : Quiet s s.fetchInstr.2 := by
  unfold State.fetchInstr
  extract_lets o b1 b2
  split
  · exact s.fetch_quiet
  · split
    · exact s.fetch_quiet.trans (State.fetch_quiet _)
    · exact (s.fetch_quiet.trans (State.fetch_quiet _)).trans (State.fetch_quiet _)

/-- A fetch changes no CPU register but PC. -/
theorem State.fetchInstr_cpu (s : State) :
    s.fetchInstr.2.cpu = { s.cpu with pc := s.fetchInstr.2.cpu.pc } := by
  unfold State.fetchInstr
  extract_lets o b1 b2
  have h1 : o.2.cpu = { s.cpu with pc := s.cpu.pc + 1 } := s.fetch_cpu
  have h2 : b1.2.cpu = { o.2.cpu with pc := o.2.cpu.pc + 1 } := o.2.fetch_cpu
  have h3 : b2.2.cpu = { b1.2.cpu with pc := b1.2.cpu.pc + 1 } := b1.2.fetch_cpu
  split
  · rw [h1]
  · split
    · rw [h2, h1]
    · rw [h3, h2, h1]

@[simp] theorem State.fetchInstr_cycles (s : State) : s.fetchInstr.2.cpu.cycles = s.cpu.cycles := by
  rw [State.fetchInstr_cpu]

/-- The fetch of an instruction that lies in plain memory: PC moves past it, nothing else changes. -/
theorem State.fetchInstr_plain (s : State) (h0 : plainAddress s.cpu.pc = true)
    (h1 : plainAddress (s.cpu.pc + 1) = true) (h2 : plainAddress (s.cpu.pc + 2) = true) :
    s.fetchInstr =
      (instrOf (s.peek s.cpu.pc) (s.peek (s.cpu.pc + 1)) (s.peek (s.cpu.pc + 2)),
        s.setPc (s.cpu.pc + BitVec.ofNat 16 (lengthOf (s.peek s.cpu.pc)))) := by
  have e2 : s.cpu.pc + 1 + 1 = s.cpu.pc + 2 := by rw [BitVec.add_assoc]; rfl
  have e3 : s.cpu.pc + 2 + 1 = s.cpu.pc + 3 := by rw [BitVec.add_assoc]; rfl
  have f0 := s.fetch_plain h0
  have f1 := (s.setPc (s.cpu.pc + 1)).fetch_plain h1
  have f2 := (s.setPc (s.cpu.pc + 2)).fetch_plain h2
  simp only [State.setPc_pc, State.setPc_setPc, State.peek_setPc, e2, e3] at f1 f2
  have hi1 (op b1 b2 : Byte) (hl : lengthOf op = 1) : instrOf op b1 b2 = instrOf op 0 0 := by
    unfold instrOf; unfold lengthOf OpRow.length at hl
    cases hf : (rowOf op).form <;> simp [hf, Form.length] at hl ⊢
  have hi2 (op b1 b2 : Byte) (hl : lengthOf op = 2) : instrOf op b1 b2 = instrOf op b1 0 := by
    unfold instrOf; unfold lengthOf OpRow.length at hl
    cases hf : (rowOf op).form <;> simp [hf, Form.length] at hl ⊢
  unfold State.fetchInstr
  simp only [f0, f1, f2]
  rcases lengthOf_cases (s.peek s.cpu.pc) with hl | hl | hl
  · simp only [hl, if_true, hi1 _ _ _ hl]; rfl
  · simp only [hl, if_true, hi2 _ _ _ hl, show ¬ (2 = 1) by omega, if_false]; rfl
  · simp only [hl, show ¬ (3 = 1) by omega, show ¬ (3 = 2) by omega, if_false]; rfl

/-! ### The cases of a step -/

/-- Every way a step can answer a next state (R400). -/
theorem step_cases {s t : State} (h : step s = .next t) :
    s.cpu.refused = false ∧ s.cart.attached = true ∧
    ((s.cpu.nmiPending = true ∧ t = s.clearNmi.interruptSequence nmiVector) ∨
     (s.cpu.nmiPending = false ∧ s.irqLine = true ∧ s.cpu.flags.i = false ∧
      t = s.acknowledgeIrq.interruptSequence irqVector) ∨
     (s.ready ∧ ∃ u, exec s.fetchInstr.1 s.fetchInstr.2 = .next u ∧
      t = u.finishStep (u.cpu.cycles - s.cpu.cycles))) := by
  unfold step at h
  split at h
  · cases h
  rename_i hr
  split at h
  · rename_i ha
    refine ⟨by simpa using hr, ha, ?_⟩
    unfold State.systemStep at h
    split at h
    · rename_i hn
      exact .inl ⟨hn, (Host.Outcome.next.inj h).symm⟩
    · rename_i hn
      have hn' : s.cpu.nmiPending = false := by simpa using hn
      split at h
      · rename_i hi
        simp only [Bool.and_eq_true, Bool.not_eq_true'] at hi
        exact .inr (.inl ⟨hn', hi.1, hi.2, (Host.Outcome.next.inj h).symm⟩)
      · rename_i hi
        refine .inr (.inr ⟨⟨by simpa using hr, ha, hn', ?_⟩, ?_⟩)
        · cases h1 : s.irqLine
          · exact .inl rfl
          · cases h2 : s.cpu.flags.i
            · simp [h1, h2] at hi
            · exact .inr rfl
        · unfold State.cpuStep completeStep at h
          simp only at h
          split at h
          · rename_i u hu
            refine ⟨u, hu, ?_⟩
            rw [← Host.Outcome.next.inj h, State.fetchInstr_cycles]
          · cases h
          · cases h
  · cases h

/-- A step with nothing before the next instruction is the instruction part of a step. -/
theorem step_of_ready {s : State} (h : s.ready) : step s = s.cpuStep := by
  obtain ⟨h1, h2, h3, h4⟩ := h
  unfold step State.systemStep
  rcases h4 with h4 | h4 <;> simp [h1, h2, h3, h4]

/-! ### Other settings -/

@[simp] theorem State.withSettings_settings (s : State) (p : Config.Settings) : (s.withSettings p).settings = p := rfl
@[simp] theorem State.withSettings_cpu (s : State) (p : Config.Settings) : (s.withSettings p).cpu = s.cpu := rfl
@[simp] theorem State.withSettings_bus (s : State) (p : Config.Settings) : (s.withSettings p).bus = s.bus := rfl
@[simp] theorem State.withSettings_ppu (s : State) (p : Config.Settings) : (s.withSettings p).ppu = s.ppu := rfl
@[simp] theorem State.withSettings_apu (s : State) (p : Config.Settings) : (s.withSettings p).apu = s.apu := rfl
@[simp] theorem State.withSettings_cart (s : State) (p : Config.Settings) : (s.withSettings p).cart = s.cart := rfl

/-! ### What every step keeps -/

/-- What a stretch of the machine's run keeps: the parts of the invariant, one APU cycle and three dots for every CPU
cycle, ROM and the header. -/
structure Run (s t : State) : Prop where
  parts : s.Parts → t.Parts
  cycles : s.cpu.cycles ≤ t.cpu.cycles
  clock : t.apu.apuCycle = s.apu.apuCycle + (t.cpu.cycles - s.cpu.cycles)
  cart : CartKept s.cart t.cart
  refused : t.cpu.refused = s.cpu.refused
  inputs : t.bus.input0 = s.bus.input0 ∧ t.bus.input1 = s.bus.input1 ∧ t.bus.openBus = s.bus.openBus
  frame : s.ppu.frame ≤ t.ppu.frame
  position : s.Parts → ∃ skipped ≤ t.ppu.frame - s.ppu.frame,
    t.ppu.position = s.ppu.position + 3 * (t.cpu.cycles - s.cpu.cycles) + skipped
  settings : t.settings = s.settings

theorem Run.trans {s t u : State} (h : Run s t) (k : Run t u) : Run s u where
  parts := fun i => k.parts (h.parts i)
  cycles := Nat.le_trans h.cycles k.cycles
  clock := by
    have := h.cycles
    have := k.cycles
    rw [k.clock, h.clock]; omega
  cart := h.cart.trans k.cart
  refused := k.refused.trans h.refused
  inputs := ⟨k.inputs.1.trans h.inputs.1, k.inputs.2.1.trans h.inputs.2.1, k.inputs.2.2.trans h.inputs.2.2⟩
  frame := Nat.le_trans h.frame k.frame
  position := fun i => by
    obtain ⟨a, ha, ha'⟩ := h.position i
    obtain ⟨b, hb, hb'⟩ := k.position (h.parts i)
    have := h.frame
    have := k.frame
    have := h.cycles
    have := k.cycles
    exact ⟨a + b, by omega, by omega⟩
  settings := k.settings.trans h.settings

/-- Accesses that count `n` cycles, then their fan-out. -/
theorem Quiet.tick {s u : State} {n : Nat} (h : Quiet s u) (hn : u.cpu.cycles = s.cpu.cycles + n) :
    Run s (u.tick n) := by
  have k := u.tick_spec n
  generalize u.tick n = t at k ⊢
  have hc : t.cpu.cycles = s.cpu.cycles + n := by rw [k.cpu, hn]
  have hpos : u.ppu.position = s.ppu.position := by
    unfold Ppu.position; rw [h.place.frame, h.place.scanline, h.place.dot]
  exact
    { parts := fun i => by
        have j := h.parts i
        exact ⟨by rw [k.bus]; exact j.ram, k.ppuInv j.ppu, k.apuInv j.apu, k.cart.inv j.cart⟩
      cycles := by omega
      clock := by rw [k.apuCycle, h.apuCycle]; omega
      cart := h.cart.trans k.cart.cartKept
      refused := by rw [k.cpu]; exact h.refused
      inputs := by rw [k.bus]; exact h.inputs
      frame := by rw [← h.place.frame]; exact k.frame
      position := fun i => by
        obtain ⟨a, ha, ha'⟩ := k.position (h.parts i).ppu
        rw [h.place.frame] at ha
        rw [hpos] at ha'
        exact ⟨a, ha, by omega⟩
      settings := k.settings.trans h.settings }

/-- OAM-DMA copies and then counts and fans out its stall (R231-R236). -/
theorem State.oamDma_run (s : State) : Run s s.oamDma := by
  unfold State.oamDma
  extract_lets src s1 s2 stall
  have h1 : Quiet s s1 :=
    ⟨fun i => ⟨i.1, i.2, i.3, i.4⟩, .refl _, rfl, .refl _, rfl, Nat.le_refl _, ⟨rfl, rfl, rfl⟩, rfl, rfl, rfl⟩
  have h2 : Quiet s s2 := h1.trans (State.dmaCopy_quiet 256 0 s1)
  have hb (i : Byte) (u : State) : (u.dmaByte i).cpu = u.cpu := by
    show (u.read _).2.cpu = u.cpu
    rw [State.read_cpu]
  have hc (n : Nat) (i : Byte) (u : State) : (State.dmaCopy n i u).cpu = u.cpu := by
    induction n generalizing i u with
    | zero => rfl
    | succ n ih => exact (ih _ _).trans (hb i u)
  have h3 : s2.cpu = s.cpu := hc 256 0 s1
  exact (h2.trans (s2.addCycles_quiet stall)).tick (by rw [State.addCycles_cycles, h3])

/-- The end of a step after an instruction that counted `n` cycles. -/
theorem Quiet.finishStep {s u : State} {n : Nat} (h : Quiet s u) (hn : u.cpu.cycles = s.cpu.cycles + n) :
    Run s (u.finishStep n) := by
  have hr := h.tick hn
  unfold State.finishStep
  simp only
  split
  · exact hr.trans (State.oamDma_run _)
  · exact hr

/-- An interrupt sequence (R720), for a vector in PRG-ROM. -/
theorem State.interruptSequence_run (s : State) {vector : Word}
    (h : 0x8000 ≤ vector.toNat ∧ 0x8000 ≤ (vector + 1).toNat) : Run s (s.interruptSequence vector) := by
  unfold State.interruptSequence
  refine ((s.enterHandler_quiet _ vector).trans (State.addCycles_quiet _ 7)).tick ?_
  rw [State.addCycles_cycles, State.enterHandler_eq _ _ h]

theorem Cart.irqClear_spec (c : Cart) : CartKept c c.irqClear ∧ (c.Inv → c.irqClear.Inv) := by
  unfold Cart.irqClear
  split
  · exact ⟨⟨rfl, rfl, rfl, rfl, rfl, fun _ => rfl, rfl, rfl, rfl⟩, fun i => ⟨i.1, i.2, i.3⟩⟩
  · exact ⟨.refl c, id⟩

theorem State.acknowledgeIrqWith_quiet (b : Bool) (s : State) : Quiet s (s.acknowledgeIrqWith b) := by
  unfold State.acknowledgeIrqWith
  extract_lets s1
  split
  · exact ⟨fun i => ⟨i.1, i.2, i.3, s.cart.irqClear_spec.2 i.4⟩, .refl _, rfl, s.cart.irqClear_spec.1, rfl,
      Nat.le_refl _, ⟨rfl, rfl, rfl⟩, rfl, rfl, rfl⟩
  · exact ⟨fun i => ⟨i.1, i.2, i.3, i.4⟩, .refl _, rfl, .refl _, rfl, Nat.le_refl _, ⟨rfl, rfl, rfl⟩, rfl, rfl, rfl⟩

theorem Quiet.run {s u t : State} (h : Quiet s u) (hc : u.cpu.cycles = s.cpu.cycles) (k : Run u t) : Run s t where
  parts := fun i => k.parts (h.parts i)
  cycles := by rw [← hc]; exact k.cycles
  clock := by rw [k.clock, h.apuCycle, hc]
  cart := h.cart.trans k.cart
  refused := k.refused.trans h.refused
  inputs := ⟨k.inputs.1.trans h.inputs.1, k.inputs.2.1.trans h.inputs.2.1, k.inputs.2.2.trans h.inputs.2.2⟩
  frame := by rw [← h.place.frame]; exact k.frame
  position := fun i => by
    obtain ⟨a, ha, ha'⟩ := k.position (h.parts i)
    have hpos : u.ppu.position = s.ppu.position := by
      unfold Ppu.position; rw [h.place.frame, h.place.scanline, h.place.dot]
    rw [h.place.frame] at ha
    rw [hpos, hc] at ha'
    exact ⟨a, ha, ha'⟩
  settings := k.settings.trans h.settings

/-- Everything a step that has a successor keeps. -/
theorem step_run {s t : State} (h : step s = .next t) : Run s t := by
  obtain ⟨-, -, ⟨-, e⟩ | ⟨-, -, -, e⟩ | ⟨-, u, hu, e⟩⟩ := step_cases h <;> rw [e]
  · exact s.clearNmi_quiet.run rfl (State.interruptSequence_run _ nmiVector_le)
  · refine (s.acknowledgeIrqWith_quiet _).run ?_ (State.interruptSequence_run _ irqVector_le)
    unfold State.acknowledgeIrqWith
    extract_lets s1
    split <;> rfl
  · have hq := exec_quiet hu
    have hc := hq.cycles
    rw [State.fetchInstr_cycles] at hc
    exact (s.fetchInstr_quiet.trans hq).finishStep (by omega)

end Sys2Proof.Machine
end

