-- ==== Sys2Proof/Laws/Stack.lean ====
section
/-! SUPPORT. The stack and the entry into a handler, in the terms of `Safety`. -/

namespace Sys2Proof.Machine

/-- The stack is always RAM (R105). -/
theorem State.peek_stack (s : State) (x : Byte) : s.peek (stackAddr x) = s.bus.ram.get (0x100 + x.toNat) := by
  have := x.isLt
  unfold State.peek
  simp only [stackAddr_toNat, show 256 + x.toNat < 8192 by omega, if_true,
    show (256 + x.toNat) % 2048 = 256 + x.toNat by omega]

theorem stackAddr_plain (x : Byte) : plainAddress (stackAddr x) = true :=
  (plainAddress_iff _).2 (.inl (stackAddr_lt x))

theorem wordOf_eq_ofNat (l h : Byte) : wordOf l h = BitVec.ofNat 16 (l.toNat + 256 * h.toNat) := by
  apply BitVec.eq_of_toNat_eq
  have := l.isLt
  have := h.isLt
  rw [wordOf_toNat, BitVec.toNat_ofNat]; omega

/-- Only the state outside the CPU counts. -/
theorem Pushed.congr {bs : List Byte} {s t u : State} (h : Pushed bs s t) (hb : u.bus = t.bus) (hp : u.ppu = t.ppu)
    (ha : u.apu = t.apu) (hc : u.cart = t.cart) (hs : u.settings = t.settings) : Pushed bs s u := by
  have hk : ∀ a, u.peek a = t.peek a := fun a => by unfold State.peek; rw [hb, hc]
  exact ⟨fun k v e => by rw [hk]; exact h.stored k v e, fun b x y => by rw [hk]; exact h.others b x y,
    by rw [hb, h.bus], by rw [hp, h.ppu], by rw [ha, h.apu], by rw [hc, h.cart], hs.trans h.settings⟩

/-- What one push does (R467). -/
theorem State.push_pushed (s : State) (v : Byte) : Pushed [v] s (s.push v) := by
  rw [State.push_eq]
  refine ⟨fun k w h => ?_, fun b _ hn => ?_, rfl, rfl, rfl, rfl, rfl⟩
  · match k with
    | 0 =>
      rw [← Option.some.inj h, BitVec.ofNat_eq_ofNat, BitVec.sub_zero, State.peek_stack]
      exact Memory.get_set_self ..
    | k + 1 => simp at h
  · have h0 := hn 0 (by simp)
    have := s.cpu.sp.isLt
    simp only [sameByte, stackAddr_toNat, BitVec.sub_zero] at h0
    rw [if_pos (by omega)] at h0
    unfold State.peek
    simp only
    split
    · exact Memory.get_set_ne _ (fun e => h0 (by omega)) _
    · rfl

/-- A push, then others. -/
theorem Pushed.cons {v : Byte} {bs : List Byte} {s t u : State} (h : Pushed [v] s t) (hs : t.cpu.sp = s.cpu.sp - 1)
    (k : Pushed bs t u) (hl : bs.length < 256) : Pushed (v :: bs) s u where
  stored i x hx := by
    cases i with
    | zero =>
      rw [List.getElem?_cons_zero] at hx
      rw [k.others _ (stackAddr_plain _), h.stored 0 v rfl, Option.some.inj hx]
      intro j hj hsb
      have h1 : (s.cpu.sp - 1 - BitVec.ofNat 8 j).toNat < 256 := BitVec.isLt _
      have h2 : (s.cpu.sp - BitVec.ofNat 8 0).toNat < 256 := BitVec.isLt _
      unfold sameByte at hsb
      rw [stackAddr_toNat, stackAddr_toNat, hs, if_pos (by omega)] at hsb
      bv_omega
    | succ i =>
      have := k.stored i x (by simpa using hx)
      rw [← this, hs, BitVec.sub_sub, show (1 + BitVec.ofNat 8 i : Byte) = BitVec.ofNat 8 (i + 1) by bv_omega]
  others b hb hn := by
    rw [k.others b hb, h.others b hb]
    · intro i hi
      rw [show i = 0 by simpa using hi]
      exact hn 0 (by simp)
    · intro i hi
      have := hn (i + 1) (by simpa using hi)
      rwa [hs, BitVec.sub_sub, show (1 + BitVec.ofNat 8 i : Byte) = BitVec.ofNat 8 (i + 1) by bv_omega]
  bus := by rw [k.bus, h.bus]
  ppu := k.ppu.trans h.ppu
  apu := k.apu.trans h.apu
  cart := k.cart.trans h.cart
  settings := k.settings.trans h.settings

theorem State.push_sp (s : State) (v : Byte) : (s.push v).cpu.sp = s.cpu.sp - 1 := by rw [State.push_eq]

theorem State.pushWord_pushed (s : State) (w : Word) : Pushed [hiByte w, loByte w] s (s.pushWord w) :=
  (s.push_pushed _).cons (s.push_sp _) (State.push_pushed _ _) (by simp)

/-- What taking an interrupt does, with its 7 cycles (R575, R720). -/
theorem State.enterHandler_entered (s : State) (p : Byte) {vector : Word}
    (h : 0x8000 ≤ vector.toNat ∧ 0x8000 ≤ (vector + 1).toNat) :
    Entered p vector s ((s.enterHandler p vector).addCycles 7) where
  pushed := by
    have hp : Pushed [hiByte s.cpu.pc, loByte s.cpu.pc, p] s ((s.pushWord s.cpu.pc).push p) :=
      (s.push_pushed _).cons (s.push_sp _)
        ((State.push_pushed _ _).cons (State.push_sp _ _) (State.push_pushed _ p) (by simp)) (by simp)
    unfold State.enterHandler
    simp only
    rw [State.read16_rom _ h]
    exact hp.congr rfl rfl rfl rfl rfl
  cpu := by rw [State.enterHandler_eq _ _ h]; rfl

end Sys2Proof.Machine
end

