-- ==== Sys2Proof/Tests/Slice0.lean ====
section
/-! SUPPORT. Tests and witnesses. The expected results are those of the spec's test vectors V<n> (95), of worked rules
where a test names a rule, and of the decode table (30 R303), each word written out by hand from the table. -/

namespace Sys2Proof.Tests

open Machine

-- The theorems below are evaluated by the kernel, one after another.
set_option Elab.async false

/-! ### Helpers -/

/-- The registers of harness H1 (95 section 0): A = X = Y = 0, S = $FD, P = $24, PC = $0300. -/
def home : Cpu := { sp := 0xFD, pc := 0x0300, flags := Flags.ofByte 0x24 }

/-- A RAM image from its bytes. -/
def ramOf (cells : List (Nat × Byte)) : Memory := cells.foldl (fun m c => m.set c.1 c.2) []

/-- Harness H1: the registers, RAM bytes, and the instruction's bytes at PC. -/
def h1 (cpu : Cpu) (cells : List (Nat × Byte)) (code : List Byte) : State where
  cpu := cpu
  bus := { ram := ramOf (cells ++ code.mapIdx fun k v => (cpu.pc.toNat + k, v)) }
  ppu := {}
  apu := {}
  cart := {}

/-- Whether an answer is a next state of which `f` holds. -/
def after (r : Answer) (f : State → Bool) : Bool :=
  match r with
  | .next t => f t
  | _ => false

/-- Whether an answer is the refusal `q`. -/
def refuses (r : Answer) (q : Refusal) : Bool :=
  match r with
  | .refused p => p == q
  | _ => false

/-- What `after` says. -/
theorem next_of_after {r : Answer} {f : State → Bool} (h : after r f = true) : ∃ t, r = .next t ∧ f t = true := by
  cases r with
  | next t => exact ⟨t, rfl, h⟩
  | fault q => exact absurd h (by simp [after])
  | refused q => exact absurd h (by simp [after])

/-! ### The admitted instructions -/

/-- The one check of `WellFormed`: each of the twenty refused opcodes (R310) is ill-formed, written out. -/
theorem test_refused_opcodes_are_ill_formed :
    [Instr.jam02, .jam12, .jam22, .jam32, .jam42, .jam52, .jam62, .jam72, .jam92, .jamB2, .jamD2, .jamF2, .xaa8B,
      .lxaAB, .sha93, .sha9F, .tas9B, .shy9C, .shx9E, .lasBB].all (fun i => !i.wellFormed) = true := by
  decide

/-- A documented and an admitted undocumented instruction are well-formed, whatever the operand. -/
theorem test_admitted_instructions_are_well_formed :
    (Instr.ldaAbsX 0xFFFF).wellFormed = true ∧ (Instr.dcpIndY 0xFF).wellFormed = true ∧
      Instr.brk.wellFormed = true := by
  decide

/-! ### Decoding -/

/-- The words of opcodes $00 to $0F, written from the table of R303 with the operands of R302. -/
theorem test_decode_row_0 :
    decode [0x00] = .instr .brk [] ∧
    decode [0x01, 0x9C] = .instr (.oraIndX 0x9C) [] ∧
    decode [0x02] = .instr .jam02 [] ∧
    decode [0x03, 0x9C] = .instr (.sloIndX 0x9C) [] ∧
    decode [0x04, 0x9C] = .instr (.nopZp04 0x9C) [] ∧
    decode [0x05, 0x9C] = .instr (.oraZp 0x9C) [] ∧
    decode [0x06, 0x9C] = .instr (.aslZp 0x9C) [] ∧
    decode [0x07, 0x9C] = .instr (.sloZp 0x9C) [] ∧
    decode [0x08] = .instr .php [] ∧
    decode [0x09, 0x9C] = .instr (.oraImm 0x9C) [] ∧
    decode [0x0A] = .instr .aslAcc [] ∧
    decode [0x0B, 0x9C] = .instr (.ancImm0B 0x9C) [] ∧
    decode [0x0C, 0x34, 0x12] = .instr (.nopAbs0C 0x1234) [] ∧
    decode [0x0D, 0x34, 0x12] = .instr (.oraAbs 0x1234) [] ∧
    decode [0x0E, 0x34, 0x12] = .instr (.aslAbs 0x1234) [] ∧
    decode [0x0F, 0x34, 0x12] = .instr (.sloAbs 0x1234) [] := by
  decide

/-- The words of opcodes $10 to $1F, written from the table of R303 with the operands of R302. -/
theorem test_decode_row_1 :
    decode [0x10, 0x9C] = .instr (.bpl 0x9C) [] ∧
    decode [0x11, 0x9C] = .instr (.oraIndY 0x9C) [] ∧
    decode [0x12] = .instr .jam12 [] ∧
    decode [0x13, 0x9C] = .instr (.sloIndY 0x9C) [] ∧
    decode [0x14, 0x9C] = .instr (.nopZpX14 0x9C) [] ∧
    decode [0x15, 0x9C] = .instr (.oraZpX 0x9C) [] ∧
    decode [0x16, 0x9C] = .instr (.aslZpX 0x9C) [] ∧
    decode [0x17, 0x9C] = .instr (.sloZpX 0x9C) [] ∧
    decode [0x18] = .instr .clc [] ∧
    decode [0x19, 0x34, 0x12] = .instr (.oraAbsY 0x1234) [] ∧
    decode [0x1A] = .instr .nopImp1A [] ∧
    decode [0x1B, 0x34, 0x12] = .instr (.sloAbsY 0x1234) [] ∧
    decode [0x1C, 0x34, 0x12] = .instr (.nopAbsX1C 0x1234) [] ∧
    decode [0x1D, 0x34, 0x12] = .instr (.oraAbsX 0x1234) [] ∧
    decode [0x1E, 0x34, 0x12] = .instr (.aslAbsX 0x1234) [] ∧
    decode [0x1F, 0x34, 0x12] = .instr (.sloAbsX 0x1234) [] := by
  decide

/-- The words of opcodes $20 to $2F, written from the table of R303 with the operands of R302. -/
theorem test_decode_row_2 :
    decode [0x20, 0x34, 0x12] = .instr (.jsrAbs 0x1234) [] ∧
    decode [0x21, 0x9C] = .instr (.andIndX 0x9C) [] ∧
    decode [0x22] = .instr .jam22 [] ∧
    decode [0x23, 0x9C] = .instr (.rlaIndX 0x9C) [] ∧
    decode [0x24, 0x9C] = .instr (.bitZp 0x9C) [] ∧
    decode [0x25, 0x9C] = .instr (.andZp 0x9C) [] ∧
    decode [0x26, 0x9C] = .instr (.rolZp 0x9C) [] ∧
    decode [0x27, 0x9C] = .instr (.rlaZp 0x9C) [] ∧
    decode [0x28] = .instr .plp [] ∧
    decode [0x29, 0x9C] = .instr (.andImm 0x9C) [] ∧
    decode [0x2A] = .instr .rolAcc [] ∧
    decode [0x2B, 0x9C] = .instr (.ancImm2B 0x9C) [] ∧
    decode [0x2C, 0x34, 0x12] = .instr (.bitAbs 0x1234) [] ∧
    decode [0x2D, 0x34, 0x12] = .instr (.andAbs 0x1234) [] ∧
    decode [0x2E, 0x34, 0x12] = .instr (.rolAbs 0x1234) [] ∧
    decode [0x2F, 0x34, 0x12] = .instr (.rlaAbs 0x1234) [] := by
  decide

/-- The words of opcodes $30 to $3F, written from the table of R303 with the operands of R302. -/
theorem test_decode_row_3 :
    decode [0x30, 0x9C] = .instr (.bmi 0x9C) [] ∧
    decode [0x31, 0x9C] = .instr (.andIndY 0x9C) [] ∧
    decode [0x32] = .instr .jam32 [] ∧
    decode [0x33, 0x9C] = .instr (.rlaIndY 0x9C) [] ∧
    decode [0x34, 0x9C] = .instr (.nopZpX34 0x9C) [] ∧
    decode [0x35, 0x9C] = .instr (.andZpX 0x9C) [] ∧
    decode [0x36, 0x9C] = .instr (.rolZpX 0x9C) [] ∧
    decode [0x37, 0x9C] = .instr (.rlaZpX 0x9C) [] ∧
    decode [0x38] = .instr .sec [] ∧
    decode [0x39, 0x34, 0x12] = .instr (.andAbsY 0x1234) [] ∧
    decode [0x3A] = .instr .nopImp3A [] ∧
    decode [0x3B, 0x34, 0x12] = .instr (.rlaAbsY 0x1234) [] ∧
    decode [0x3C, 0x34, 0x12] = .instr (.nopAbsX3C 0x1234) [] ∧
    decode [0x3D, 0x34, 0x12] = .instr (.andAbsX 0x1234) [] ∧
    decode [0x3E, 0x34, 0x12] = .instr (.rolAbsX 0x1234) [] ∧
    decode [0x3F, 0x34, 0x12] = .instr (.rlaAbsX 0x1234) [] := by
  decide

/-- The words of opcodes $40 to $4F, written from the table of R303 with the operands of R302. -/
theorem test_decode_row_4 :
    decode [0x40] = .instr .rti [] ∧
    decode [0x41, 0x9C] = .instr (.eorIndX 0x9C) [] ∧
    decode [0x42] = .instr .jam42 [] ∧
    decode [0x43, 0x9C] = .instr (.sreIndX 0x9C) [] ∧
    decode [0x44, 0x9C] = .instr (.nopZp44 0x9C) [] ∧
    decode [0x45, 0x9C] = .instr (.eorZp 0x9C) [] ∧
    decode [0x46, 0x9C] = .instr (.lsrZp 0x9C) [] ∧
    decode [0x47, 0x9C] = .instr (.sreZp 0x9C) [] ∧
    decode [0x48] = .instr .pha [] ∧
    decode [0x49, 0x9C] = .instr (.eorImm 0x9C) [] ∧
    decode [0x4A] = .instr .lsrAcc [] ∧
    decode [0x4B, 0x9C] = .instr (.alrImm 0x9C) [] ∧
    decode [0x4C, 0x34, 0x12] = .instr (.jmpAbs 0x1234) [] ∧
    decode [0x4D, 0x34, 0x12] = .instr (.eorAbs 0x1234) [] ∧
    decode [0x4E, 0x34, 0x12] = .instr (.lsrAbs 0x1234) [] ∧
    decode [0x4F, 0x34, 0x12] = .instr (.sreAbs 0x1234) [] := by
  decide

/-- The words of opcodes $50 to $5F, written from the table of R303 with the operands of R302. -/
theorem test_decode_row_5 :
    decode [0x50, 0x9C] = .instr (.bvc 0x9C) [] ∧
    decode [0x51, 0x9C] = .instr (.eorIndY 0x9C) [] ∧
    decode [0x52] = .instr .jam52 [] ∧
    decode [0x53, 0x9C] = .instr (.sreIndY 0x9C) [] ∧
    decode [0x54, 0x9C] = .instr (.nopZpX54 0x9C) [] ∧
    decode [0x55, 0x9C] = .instr (.eorZpX 0x9C) [] ∧
    decode [0x56, 0x9C] = .instr (.lsrZpX 0x9C) [] ∧
    decode [0x57, 0x9C] = .instr (.sreZpX 0x9C) [] ∧
    decode [0x58] = .instr .cli [] ∧
    decode [0x59, 0x34, 0x12] = .instr (.eorAbsY 0x1234) [] ∧
    decode [0x5A] = .instr .nopImp5A [] ∧
    decode [0x5B, 0x34, 0x12] = .instr (.sreAbsY 0x1234) [] ∧
    decode [0x5C, 0x34, 0x12] = .instr (.nopAbsX5C 0x1234) [] ∧
    decode [0x5D, 0x34, 0x12] = .instr (.eorAbsX 0x1234) [] ∧
    decode [0x5E, 0x34, 0x12] = .instr (.lsrAbsX 0x1234) [] ∧
    decode [0x5F, 0x34, 0x12] = .instr (.sreAbsX 0x1234) [] := by
  decide

/-- The words of opcodes $60 to $6F, written from the table of R303 with the operands of R302. -/
theorem test_decode_row_6 :
    decode [0x60] = .instr .rts [] ∧
    decode [0x61, 0x9C] = .instr (.adcIndX 0x9C) [] ∧
    decode [0x62] = .instr .jam62 [] ∧
    decode [0x63, 0x9C] = .instr (.rraIndX 0x9C) [] ∧
    decode [0x64, 0x9C] = .instr (.nopZp64 0x9C) [] ∧
    decode [0x65, 0x9C] = .instr (.adcZp 0x9C) [] ∧
    decode [0x66, 0x9C] = .instr (.rorZp 0x9C) [] ∧
    decode [0x67, 0x9C] = .instr (.rraZp 0x9C) [] ∧
    decode [0x68] = .instr .pla [] ∧
    decode [0x69, 0x9C] = .instr (.adcImm 0x9C) [] ∧
    decode [0x6A] = .instr .rorAcc [] ∧
    decode [0x6B, 0x9C] = .instr (.arrImm 0x9C) [] ∧
    decode [0x6C, 0x34, 0x12] = .instr (.jmpInd 0x1234) [] ∧
    decode [0x6D, 0x34, 0x12] = .instr (.adcAbs 0x1234) [] ∧
    decode [0x6E, 0x34, 0x12] = .instr (.rorAbs 0x1234) [] ∧
    decode [0x6F, 0x34, 0x12] = .instr (.rraAbs 0x1234) [] := by
  decide

/-- The words of opcodes $70 to $7F, written from the table of R303 with the operands of R302. -/
theorem test_decode_row_7 :
    decode [0x70, 0x9C] = .instr (.bvs 0x9C) [] ∧
    decode [0x71, 0x9C] = .instr (.adcIndY 0x9C) [] ∧
    decode [0x72] = .instr .jam72 [] ∧
    decode [0x73, 0x9C] = .instr (.rraIndY 0x9C) [] ∧
    decode [0x74, 0x9C] = .instr (.nopZpX74 0x9C) [] ∧
    decode [0x75, 0x9C] = .instr (.adcZpX 0x9C) [] ∧
    decode [0x76, 0x9C] = .instr (.rorZpX 0x9C) [] ∧
    decode [0x77, 0x9C] = .instr (.rraZpX 0x9C) [] ∧
    decode [0x78] = .instr .sei [] ∧
    decode [0x79, 0x34, 0x12] = .instr (.adcAbsY 0x1234) [] ∧
    decode [0x7A] = .instr .nopImp7A [] ∧
    decode [0x7B, 0x34, 0x12] = .instr (.rraAbsY 0x1234) [] ∧
    decode [0x7C, 0x34, 0x12] = .instr (.nopAbsX7C 0x1234) [] ∧
    decode [0x7D, 0x34, 0x12] = .instr (.adcAbsX 0x1234) [] ∧
    decode [0x7E, 0x34, 0x12] = .instr (.rorAbsX 0x1234) [] ∧
    decode [0x7F, 0x34, 0x12] = .instr (.rraAbsX 0x1234) [] := by
  decide

/-- The words of opcodes $80 to $8F, written from the table of R303 with the operands of R302. -/
theorem test_decode_row_8 :
    decode [0x80, 0x9C] = .instr (.nopImm80 0x9C) [] ∧
    decode [0x81, 0x9C] = .instr (.staIndX 0x9C) [] ∧
    decode [0x82, 0x9C] = .instr (.nopImm82 0x9C) [] ∧
    decode [0x83, 0x9C] = .instr (.saxIndX 0x9C) [] ∧
    decode [0x84, 0x9C] = .instr (.styZp 0x9C) [] ∧
    decode [0x85, 0x9C] = .instr (.staZp 0x9C) [] ∧
    decode [0x86, 0x9C] = .instr (.stxZp 0x9C) [] ∧
    decode [0x87, 0x9C] = .instr (.saxZp 0x9C) [] ∧
    decode [0x88] = .instr .dey [] ∧
    decode [0x89, 0x9C] = .instr (.nopImm89 0x9C) [] ∧
    decode [0x8A] = .instr .txa [] ∧
    decode [0x8B] = .instr .xaa8B [] ∧
    decode [0x8C, 0x34, 0x12] = .instr (.styAbs 0x1234) [] ∧
    decode [0x8D, 0x34, 0x12] = .instr (.staAbs 0x1234) [] ∧
    decode [0x8E, 0x34, 0x12] = .instr (.stxAbs 0x1234) [] ∧
    decode [0x8F, 0x34, 0x12] = .instr (.saxAbs 0x1234) [] := by
  decide

/-- The words of opcodes $90 to $9F, written from the table of R303 with the operands of R302. -/
theorem test_decode_row_9 :
    decode [0x90, 0x9C] = .instr (.bcc 0x9C) [] ∧
    decode [0x91, 0x9C] = .instr (.staIndY 0x9C) [] ∧
    decode [0x92] = .instr .jam92 [] ∧
    decode [0x93] = .instr .sha93 [] ∧
    decode [0x94, 0x9C] = .instr (.styZpX 0x9C) [] ∧
    decode [0x95, 0x9C] = .instr (.staZpX 0x9C) [] ∧
    decode [0x96, 0x9C] = .instr (.stxZpY 0x9C) [] ∧
    decode [0x97, 0x9C] = .instr (.saxZpY 0x9C) [] ∧
    decode [0x98] = .instr .tya [] ∧
    decode [0x99, 0x34, 0x12] = .instr (.staAbsY 0x1234) [] ∧
    decode [0x9A] = .instr .txs [] ∧
    decode [0x9B] = .instr .tas9B [] ∧
    decode [0x9C] = .instr .shy9C [] ∧
    decode [0x9D, 0x34, 0x12] = .instr (.staAbsX 0x1234) [] ∧
    decode [0x9E] = .instr .shx9E [] ∧
    decode [0x9F] = .instr .sha9F [] := by
  decide

/-- The words of opcodes $A0 to $AF, written from the table of R303 with the operands of R302. -/
theorem test_decode_row_A :
    decode [0xA0, 0x9C] = .instr (.ldyImm 0x9C) [] ∧
    decode [0xA1, 0x9C] = .instr (.ldaIndX 0x9C) [] ∧
    decode [0xA2, 0x9C] = .instr (.ldxImm 0x9C) [] ∧
    decode [0xA3, 0x9C] = .instr (.laxIndX 0x9C) [] ∧
    decode [0xA4, 0x9C] = .instr (.ldyZp 0x9C) [] ∧
    decode [0xA5, 0x9C] = .instr (.ldaZp 0x9C) [] ∧
    decode [0xA6, 0x9C] = .instr (.ldxZp 0x9C) [] ∧
    decode [0xA7, 0x9C] = .instr (.laxZp 0x9C) [] ∧
    decode [0xA8] = .instr .tay [] ∧
    decode [0xA9, 0x9C] = .instr (.ldaImm 0x9C) [] ∧
    decode [0xAA] = .instr .tax [] ∧
    decode [0xAB] = .instr .lxaAB [] ∧
    decode [0xAC, 0x34, 0x12] = .instr (.ldyAbs 0x1234) [] ∧
    decode [0xAD, 0x34, 0x12] = .instr (.ldaAbs 0x1234) [] ∧
    decode [0xAE, 0x34, 0x12] = .instr (.ldxAbs 0x1234) [] ∧
    decode [0xAF, 0x34, 0x12] = .instr (.laxAbs 0x1234) [] := by
  decide

/-- The words of opcodes $B0 to $BF, written from the table of R303 with the operands of R302. -/
theorem test_decode_row_B :
    decode [0xB0, 0x9C] = .instr (.bcs 0x9C) [] ∧
    decode [0xB1, 0x9C] = .instr (.ldaIndY 0x9C) [] ∧
    decode [0xB2] = .instr .jamB2 [] ∧
    decode [0xB3, 0x9C] = .instr (.laxIndY 0x9C) [] ∧
    decode [0xB4, 0x9C] = .instr (.ldyZpX 0x9C) [] ∧
    decode [0xB5, 0x9C] = .instr (.ldaZpX 0x9C) [] ∧
    decode [0xB6, 0x9C] = .instr (.ldxZpY 0x9C) [] ∧
    decode [0xB7, 0x9C] = .instr (.laxZpY 0x9C) [] ∧
    decode [0xB8] = .instr .clv [] ∧
    decode [0xB9, 0x34, 0x12] = .instr (.ldaAbsY 0x1234) [] ∧
    decode [0xBA] = .instr .tsx [] ∧
    decode [0xBB] = .instr .lasBB [] ∧
    decode [0xBC, 0x34, 0x12] = .instr (.ldyAbsX 0x1234) [] ∧
    decode [0xBD, 0x34, 0x12] = .instr (.ldaAbsX 0x1234) [] ∧
    decode [0xBE, 0x34, 0x12] = .instr (.ldxAbsY 0x1234) [] ∧
    decode [0xBF, 0x34, 0x12] = .instr (.laxAbsY 0x1234) [] := by
  decide

/-- The words of opcodes $C0 to $CF, written from the table of R303 with the operands of R302. -/
theorem test_decode_row_C :
    decode [0xC0, 0x9C] = .instr (.cpyImm 0x9C) [] ∧
    decode [0xC1, 0x9C] = .instr (.cmpIndX 0x9C) [] ∧
    decode [0xC2, 0x9C] = .instr (.nopImmC2 0x9C) [] ∧
    decode [0xC3, 0x9C] = .instr (.dcpIndX 0x9C) [] ∧
    decode [0xC4, 0x9C] = .instr (.cpyZp 0x9C) [] ∧
    decode [0xC5, 0x9C] = .instr (.cmpZp 0x9C) [] ∧
    decode [0xC6, 0x9C] = .instr (.decZp 0x9C) [] ∧
    decode [0xC7, 0x9C] = .instr (.dcpZp 0x9C) [] ∧
    decode [0xC8] = .instr .iny [] ∧
    decode [0xC9, 0x9C] = .instr (.cmpImm 0x9C) [] ∧
    decode [0xCA] = .instr .dex [] ∧
    decode [0xCB, 0x9C] = .instr (.axsImm 0x9C) [] ∧
    decode [0xCC, 0x34, 0x12] = .instr (.cpyAbs 0x1234) [] ∧
    decode [0xCD, 0x34, 0x12] = .instr (.cmpAbs 0x1234) [] ∧
    decode [0xCE, 0x34, 0x12] = .instr (.decAbs 0x1234) [] ∧
    decode [0xCF, 0x34, 0x12] = .instr (.dcpAbs 0x1234) [] := by
  decide

/-- The words of opcodes $D0 to $DF, written from the table of R303 with the operands of R302. -/
theorem test_decode_row_D :
    decode [0xD0, 0x9C] = .instr (.bne 0x9C) [] ∧
    decode [0xD1, 0x9C] = .instr (.cmpIndY 0x9C) [] ∧
    decode [0xD2] = .instr .jamD2 [] ∧
    decode [0xD3, 0x9C] = .instr (.dcpIndY 0x9C) [] ∧
    decode [0xD4, 0x9C] = .instr (.nopZpXD4 0x9C) [] ∧
    decode [0xD5, 0x9C] = .instr (.cmpZpX 0x9C) [] ∧
    decode [0xD6, 0x9C] = .instr (.decZpX 0x9C) [] ∧
    decode [0xD7, 0x9C] = .instr (.dcpZpX 0x9C) [] ∧
    decode [0xD8] = .instr .cld [] ∧
    decode [0xD9, 0x34, 0x12] = .instr (.cmpAbsY 0x1234) [] ∧
    decode [0xDA] = .instr .nopImpDA [] ∧
    decode [0xDB, 0x34, 0x12] = .instr (.dcpAbsY 0x1234) [] ∧
    decode [0xDC, 0x34, 0x12] = .instr (.nopAbsXDC 0x1234) [] ∧
    decode [0xDD, 0x34, 0x12] = .instr (.cmpAbsX 0x1234) [] ∧
    decode [0xDE, 0x34, 0x12] = .instr (.decAbsX 0x1234) [] ∧
    decode [0xDF, 0x34, 0x12] = .instr (.dcpAbsX 0x1234) [] := by
  decide

/-- The words of opcodes $E0 to $EF, written from the table of R303 with the operands of R302. -/
theorem test_decode_row_E :
    decode [0xE0, 0x9C] = .instr (.cpxImm 0x9C) [] ∧
    decode [0xE1, 0x9C] = .instr (.sbcIndX 0x9C) [] ∧
    decode [0xE2, 0x9C] = .instr (.nopImmE2 0x9C) [] ∧
    decode [0xE3, 0x9C] = .instr (.isbIndX 0x9C) [] ∧
    decode [0xE4, 0x9C] = .instr (.cpxZp 0x9C) [] ∧
    decode [0xE5, 0x9C] = .instr (.sbcZp 0x9C) [] ∧
    decode [0xE6, 0x9C] = .instr (.incZp 0x9C) [] ∧
    decode [0xE7, 0x9C] = .instr (.isbZp 0x9C) [] ∧
    decode [0xE8] = .instr .inx [] ∧
    decode [0xE9, 0x9C] = .instr (.sbcImm 0x9C) [] ∧
    decode [0xEA] = .instr .nop [] ∧
    decode [0xEB, 0x9C] = .instr (.sbcImmEB 0x9C) [] ∧
    decode [0xEC, 0x34, 0x12] = .instr (.cpxAbs 0x1234) [] ∧
    decode [0xED, 0x34, 0x12] = .instr (.sbcAbs 0x1234) [] ∧
    decode [0xEE, 0x34, 0x12] = .instr (.incAbs 0x1234) [] ∧
    decode [0xEF, 0x34, 0x12] = .instr (.isbAbs 0x1234) [] := by
  decide

/-- The words of opcodes $F0 to $FF, written from the table of R303 with the operands of R302. -/
theorem test_decode_row_F :
    decode [0xF0, 0x9C] = .instr (.beq 0x9C) [] ∧
    decode [0xF1, 0x9C] = .instr (.sbcIndY 0x9C) [] ∧
    decode [0xF2] = .instr .jamF2 [] ∧
    decode [0xF3, 0x9C] = .instr (.isbIndY 0x9C) [] ∧
    decode [0xF4, 0x9C] = .instr (.nopZpXF4 0x9C) [] ∧
    decode [0xF5, 0x9C] = .instr (.sbcZpX 0x9C) [] ∧
    decode [0xF6, 0x9C] = .instr (.incZpX 0x9C) [] ∧
    decode [0xF7, 0x9C] = .instr (.isbZpX 0x9C) [] ∧
    decode [0xF8] = .instr .sed [] ∧
    decode [0xF9, 0x34, 0x12] = .instr (.sbcAbsY 0x1234) [] ∧
    decode [0xFA] = .instr .nopImpFA [] ∧
    decode [0xFB, 0x34, 0x12] = .instr (.isbAbsY 0x1234) [] ∧
    decode [0xFC, 0x34, 0x12] = .instr (.nopAbsXFC 0x1234) [] ∧
    decode [0xFD, 0x34, 0x12] = .instr (.sbcAbsX 0x1234) [] ∧
    decode [0xFE, 0x34, 0x12] = .instr (.incAbsX 0x1234) [] ∧
    decode [0xFF, 0x34, 0x12] = .instr (.isbAbsX 0x1234) [] := by
  decide

/-! ### One step of an instruction (95 sections 1 and 2) -/

/-- V21: LDA. -/
theorem test_v21_lda :
    after (step (h1 home [] [0xA9, 0x80])) (fun t =>
      t.cpu.a == 0x80 && t.p == 0xA4 && t.cpu.pc == 0x0302 && t.cpu.cycles == 2) = true := by
  decide +kernel

/-- V23: LDA absolute X, page cross. -/
theorem test_v23_lda_absolute_x_page_cross :
    after (step (h1 ({ home with x := 0x01 }) [(0x500, 0x77)] [0xBD, 0xFF, 0x04])) (fun t =>
      t.cpu.a == 0x77 && t.p == 0x24 && t.cpu.cycles == 5) = true := by
  decide +kernel

/-- V25: LDA indexed indirect, the pointer wraps. -/
theorem test_v25_lda_indexed_indirect_the_pointer_wraps :
    after (step (h1 home [(0xFF, 0x34), (0x0, 0x02), (0x234, 0x99)] [0xA1, 0xFF])) (fun t =>
      t.cpu.a == 0x99 && t.p == 0xA4 && t.cpu.cycles == 6) = true := by
  decide +kernel

/-- V26: LDA indirect indexed, page cross. -/
theorem test_v26_lda_indirect_indexed_page_cross :
    after (step (h1 ({ home with y := 0x10 }) [(0x40, 0xF8), (0x41, 0x04), (0x508, 0x42)] [0xB1, 0x40])) (fun t =>
      t.cpu.a == 0x42 && t.cpu.cycles == 6) = true := by
  decide +kernel

/-- V22: LDA zero page X, the address wraps. -/
theorem test_v22_lda_zero_page_x_the_address_wraps :
    after (step (h1 ({ home with x := 0x90 }) [(0x10, 0x55)] [0xB5, 0x80])) (fun t =>
      t.cpu.a == 0x55 && t.p == 0x24 && t.cpu.cycles == 4) = true := by
  decide +kernel

/-- V24: LDA absolute Y, no cross. -/
theorem test_v24_lda_absolute_y_no_cross :
    after (step (h1 ({ home with y := 0x05 }) [(0x405, 0x01)] [0xB9, 0x00, 0x04])) (fun t =>
      t.cpu.a == 0x01 && t.cpu.cycles == 4) = true := by
  decide +kernel

/-- V28: LDX zero page Y. -/
theorem test_v28_ldx_zero_page_y :
    after (step (h1 ({ home with y := 0x20 }) [(0x10, 0x80)] [0xB6, 0xF0])) (fun t =>
      t.cpu.x == 0x80 && t.p == 0xA4 && t.cpu.cycles == 4) = true := by
  decide +kernel

/-- V29: STA absolute X, no penalty. -/
theorem test_v29_sta_absolute_x_no_penalty :
    after (step (h1 ({ home with a := 0x12, x := 0x01 }) [] [0x9D, 0xFF, 0x04])) (fun t =>
      t.p == 0x24 && t.peek 0x0500 == 0x12 && t.cpu.cycles == 5) = true := by
  decide +kernel

/-- V30: STA indirect indexed. -/
theorem test_v30_sta_indirect_indexed :
    after (step (h1 ({ home with a := 0xAB, y := 0x10 }) [(0x40, 0xF8), (0x41, 0x04)] [0x91, 0x40])) (fun t =>
      t.peek 0x0508 == 0xAB && t.cpu.cycles == 6) = true := by
  decide +kernel

/-- V31: TAX. -/
theorem test_v31_tax :
    after (step (h1 ({ home with x := 0x05 }) [] [0xAA])) (fun t =>
      t.cpu.x == 0x00 && t.p == 0x26 && t.cpu.cycles == 2) = true := by
  decide +kernel

/-- V32: TSX. -/
theorem test_v32_tsx :
    after (step (h1 home [] [0xBA])) (fun t => t.cpu.x == 0xFD && t.p == 0xA4 && t.cpu.cycles == 2) = true := by
  decide +kernel

/-- V33: TXS. -/
theorem test_v33_txs :
    after (step (h1 home [] [0x9A])) (fun t => t.cpu.sp == 0x00 && t.p == 0x24 && t.cpu.cycles == 2) = true := by
  decide +kernel

/-- V34: PHA. -/
theorem test_v34_pha :
    after (step (h1 ({ home with a := 0x12 }) [] [0x48])) (fun t =>
      t.cpu.sp == 0xFC && t.peek 0x01FD == 0x12 && t.cpu.cycles == 3) = true := by
  decide +kernel

/-- V35: PHA wraps. -/
theorem test_v35_pha_wraps :
    after (step (h1 ({ home with a := 0x34, sp := 0x00 }) [] [0x48])) (fun t =>
      t.cpu.sp == 0xFF && t.peek 0x0100 == 0x34 && t.cpu.cycles == 3) = true := by
  decide +kernel

/-- V36: PLA. -/
theorem test_v36_pla :
    after (step (h1 ({ home with a := 0x55 }) [] [0x68])) (fun t =>
      t.cpu.a == 0x00 && t.cpu.sp == 0xFE && t.p == 0x26 && t.cpu.cycles == 4) = true := by
  decide +kernel

/-- V37: PHP. -/
theorem test_v37_php :
    after (step (h1 home [] [0x08])) (fun t =>
      t.cpu.sp == 0xFC && t.peek 0x01FD == 0x34 && t.cpu.cycles == 3) = true := by
  decide +kernel

/-- V38: PLP. -/
theorem test_v38_plp :
    after (step (h1 home [(0x1FE, 0xFF)] [0x28])) (fun t =>
      t.p == 0xEF && t.cpu.sp == 0xFE && t.cpu.cycles == 4) = true := by
  decide +kernel

/-- V41: ADC overflows. -/
theorem test_v41_adc_overflows :
    after (step (h1 ({ home with a := 0x7F }) [] [0x69, 0x01])) (fun t =>
      t.cpu.a == 0x80 && t.p == 0xE4 && t.cpu.cycles == 2) = true := by
  decide +kernel

/-- V46: ADC is binary with D set. -/
theorem test_v46_adc_is_binary_with_d_set :
    after (step (h1 ({ home with a := 0x09, flags := Flags.ofByte 0x2C }) [] [0x69, 0x09])) (fun t =>
      t.cpu.a == 0x12 && t.p == 0x2C && t.cpu.cycles == 2) = true := by
  decide +kernel

/-- V47: SBC borrows. -/
theorem test_v47_sbc_borrows :
    after (step (h1 ({ home with a := 0x50, flags := Flags.ofByte 0x25 }) [] [0xE9, 0xF0])) (fun t =>
      t.cpu.a == 0x60 && t.p == 0x24 && t.cpu.cycles == 2) = true := by
  decide +kernel

/-- V49: SBC overflows. -/
theorem test_v49_sbc_overflows :
    after (step (h1 ({ home with a := 0x80, flags := Flags.ofByte 0x25 }) [] [0xE9, 0x01])) (fun t =>
      t.cpu.a == 0x7F && t.p == 0x65 && t.cpu.cycles == 2) = true := by
  decide +kernel

/-- V51: AND. -/
theorem test_v51_and :
    after (step (h1 ({ home with a := 0xF0 }) [] [0x29, 0x0F])) (fun t =>
      t.cpu.a == 0x00 && t.p == 0x26 && t.cpu.cycles == 2) = true := by
  decide +kernel

/-- V52: ORA. -/
theorem test_v52_ora :
    after (step (h1 ({ home with a := 0x01 }) [] [0x09, 0x80])) (fun t =>
      t.cpu.a == 0x81 && t.p == 0xA4 && t.cpu.cycles == 2) = true := by
  decide +kernel

/-- V53: EOR. -/
theorem test_v53_eor :
    after (step (h1 ({ home with a := 0xFF }) [] [0x49, 0xFF])) (fun t =>
      t.cpu.a == 0x00 && t.p == 0x26 && t.cpu.cycles == 2) = true := by
  decide +kernel

/-- V54: CMP below. -/
theorem test_v54_cmp_below :
    after (step (h1 ({ home with a := 0x40 }) [] [0xC9, 0x41])) (fun t =>
      t.cpu.a == 0x40 && t.p == 0xA4 && t.cpu.cycles == 2) = true := by
  decide +kernel

/-- V55: CMP equal. -/
theorem test_v55_cmp_equal :
    after (step (h1 ({ home with a := 0x40 }) [] [0xC9, 0x40])) (fun t => t.p == 0x27 && t.cpu.cycles == 2) = true := by
  decide +kernel

/-- V56: CPX. -/
theorem test_v56_cpx :
    after (step (h1 ({ home with x := 0x20 }) [] [0xE0, 0x10])) (fun t => t.p == 0x25 && t.cpu.cycles == 2) = true := by
  decide +kernel

/-- V57: CPY. -/
theorem test_v57_cpy :
    after (step (h1 home [] [0xC0, 0xFF])) (fun t => t.p == 0x24 && t.cpu.cycles == 2) = true := by
  decide +kernel

/-- V58: BIT. -/
theorem test_v58_bit :
    after (step (h1 ({ home with a := 0x01 }) [(0x10, 0xC0)] [0x24, 0x10])) (fun t =>
      t.p == 0xE6 && t.cpu.cycles == 3) = true := by
  decide +kernel

/-- V59: INC wraps. -/
theorem test_v59_inc_wraps :
    after (step (h1 home [(0x10, 0xFF)] [0xE6, 0x10])) (fun t =>
      t.p == 0x26 && t.peek 0x0010 == 0x00 && t.cpu.cycles == 5) = true := by
  decide +kernel

/-- V60: INC absolute X, no penalty. -/
theorem test_v60_inc_absolute_x_no_penalty :
    after (step (h1 ({ home with x := 0x01 }) [(0x500, 0x7F)] [0xFE, 0xFF, 0x04])) (fun t =>
      t.p == 0xA4 && t.peek 0x0500 == 0x80 && t.cpu.cycles == 7) = true := by
  decide +kernel

/-- V62: INX wraps. -/
theorem test_v62_inx_wraps :
    after (step (h1 ({ home with x := 0xFF }) [] [0xE8])) (fun t =>
      t.cpu.x == 0x00 && t.p == 0x26 && t.cpu.cycles == 2) = true := by
  decide +kernel

/-- V63: DEY wraps. -/
theorem test_v63_dey_wraps :
    after (step (h1 home [] [0x88])) (fun t => t.cpu.y == 0xFF && t.p == 0xA4 && t.cpu.cycles == 2) = true := by
  decide +kernel

/-- V64: ASL accumulator. -/
theorem test_v64_asl_accumulator :
    after (step (h1 ({ home with a := 0x81 }) [] [0x0A])) (fun t =>
      t.cpu.a == 0x02 && t.p == 0x25 && t.cpu.cycles == 2) = true := by
  decide +kernel

/-- V65: LSR accumulator. -/
theorem test_v65_lsr_accumulator :
    after (step (h1 ({ home with a := 0x01 }) [] [0x4A])) (fun t =>
      t.cpu.a == 0x00 && t.p == 0x27 && t.cpu.cycles == 2) = true := by
  decide +kernel

/-- V66: ROL accumulator. -/
theorem test_v66_rol_accumulator :
    after (step (h1 ({ home with a := 0x80 }) [] [0x2A])) (fun t =>
      t.cpu.a == 0x00 && t.p == 0x27 && t.cpu.cycles == 2) = true := by
  decide +kernel

/-- V67: ROR accumulator. -/
theorem test_v67_ror_accumulator :
    after (step (h1 ({ home with a := 0x01, flags := Flags.ofByte 0x25 }) [] [0x6A])) (fun t =>
      t.cpu.a == 0x80 && t.p == 0xA5 && t.cpu.cycles == 2) = true := by
  decide +kernel

/-- V68: ASL zero page. -/
theorem test_v68_asl_zero_page :
    after (step (h1 home [(0x10, 0x41)] [0x06, 0x10])) (fun t =>
      t.p == 0xA4 && t.peek 0x0010 == 0x82 && t.cpu.cycles == 5) = true := by
  decide +kernel

/-- V69: ROR zero page X. -/
theorem test_v69_ror_zero_page_x :
    after (step (h1 ({ home with x := 0x01, flags := Flags.ofByte 0x25 }) [(0x11, 0x02)] [0x76, 0x10])) (fun t =>
      t.p == 0xA4 && t.peek 0x0011 == 0x81 && t.cpu.cycles == 6) = true := by
  decide +kernel

/-- V74: BEQ taken. -/
theorem test_v74_beq_taken :
    after (step (h1 ({ home with flags := Flags.ofByte 0x26 }) [] [0xF0, 0x00])) (fun t =>
      t.cpu.pc == 0x0302 && t.cpu.cycles == 3) = true := by
  decide +kernel

/-- V72: BMI not taken. -/
theorem test_v72_bmi_not_taken :
    after (step (h1 home [] [0x30, 0x10])) (fun t => t.cpu.pc == 0x0302 && t.cpu.cycles == 2) = true := by
  decide +kernel

/-- V73: BNE backwards to another page. -/
theorem test_v73_bne_backwards_to_another_page :
    after (step (h1 home [] [0xD0, 0xFB])) (fun t => t.cpu.pc == 0x02FD && t.cpu.cycles == 4) = true := by
  decide +kernel

/-- V75: BCC to another page. -/
theorem test_v75_bcc_to_another_page :
    after (step (h1 ({ home with pc := 0x0380 }) [] [0x90, 0x7F])) (fun t =>
      t.cpu.pc == 0x0401 && t.cpu.cycles == 4) = true := by
  decide +kernel

/-- V76: BCS by -128. -/
theorem test_v76_bcs_by_128 :
    after (step (h1 ({ home with flags := Flags.ofByte 0x25, pc := 0x0310 }) [] [0xB0, 0x80])) (fun t =>
      t.cpu.pc == 0x0292 && t.cpu.cycles == 4) = true := by
  decide +kernel

/-- V77: BVS to itself. -/
theorem test_v77_bvs_to_itself :
    after (step (h1 ({ home with flags := Flags.ofByte 0x64 }) [] [0x70, 0xFE])) (fun t =>
      t.cpu.pc == 0x0300 && t.cpu.cycles == 3) = true := by
  decide +kernel

/-- V78: JMP absolute. -/
theorem test_v78_jmp_absolute :
    after (step (h1 home [] [0x4C, 0x34, 0x12])) (fun t => t.cpu.pc == 0x1234 && t.cpu.cycles == 3) = true := by
  decide +kernel

/-- V11: JMP indirect at a page end. -/
theorem test_v11_jmp_indirect_at_a_page_end :
    after (step (h1 home [(0x2FF, 0x00), (0x200, 0x80)] [0x6C, 0xFF, 0x02])) (fun t =>
      t.cpu.pc == 0x8000 && t.cpu.cycles == 5) = true := by
  decide +kernel

/-- V79: JSR. -/
theorem test_v79_jsr :
    after (step (h1 home [] [0x20, 0x00, 0x04])) (fun t =>
      t.cpu.pc == 0x0400 && t.cpu.sp == 0xFB && t.peek 0x01FD == 0x03 && t.peek 0x01FC == 0x02 && t.cpu.cycles == 6) = true := by
  decide +kernel

/-- V80: RTS. -/
theorem test_v80_rts :
    after (step (h1 ({ home with sp := 0xFB }) [(0x1FC, 0x02), (0x1FD, 0x03)] [0x60])) (fun t =>
      t.cpu.pc == 0x0303 && t.cpu.sp == 0xFD && t.cpu.cycles == 6) = true := by
  decide +kernel

/-- V81: RTI. -/
theorem test_v81_rti :
    after (step (h1 ({ home with sp := 0xFA }) [(0x1FB, 0xFF), (0x1FC, 0x34), (0x1FD, 0x12)] [0x40])) (fun t =>
      t.p == 0xEF && t.cpu.pc == 0x1234 && t.cpu.sp == 0xFD && t.cpu.cycles == 6) = true := by
  decide +kernel

/-- V84: CLI. -/
theorem test_v84_cli :
    after (step (h1 home [] [0x58])) (fun t => t.p == 0x20 && t.cpu.cycles == 2) = true := by
  decide +kernel

/-- V86: CLV. -/
theorem test_v86_clv :
    after (step (h1 ({ home with flags := Flags.ofByte 0x64 }) [] [0xB8])) (fun t =>
      t.p == 0x24 && t.cpu.cycles == 2) = true := by
  decide +kernel

/-- V88: SED. -/
theorem test_v88_sed :
    after (step (h1 home [] [0xF8])) (fun t => t.p == 0x2C && t.cpu.cycles == 2) = true := by
  decide +kernel

/-- V94: NOP absolute X, page cross. -/
theorem test_v94_nop_absolute_x_page_cross :
    after (step (h1 ({ home with x := 0x01 }) [] [0x1C, 0xFF, 0x04])) (fun t =>
      t.cpu.pc == 0x0303 && t.cpu.cycles == 5) = true := by
  decide +kernel

/-- V96: LAX. -/
theorem test_v96_lax :
    after (step (h1 home [(0x10, 0x80)] [0xA7, 0x10])) (fun t =>
      t.cpu.a == 0x80 && t.cpu.x == 0x80 && t.p == 0xA4 && t.cpu.cycles == 3) = true := by
  decide +kernel

/-- V99: SAX zero page Y. -/
theorem test_v99_sax_zero_page_y :
    after (step (h1 ({ home with a := 0xFF, x := 0x01, y := 0x01 }) [] [0x97, 0x10])) (fun t =>
      t.p == 0x24 && t.peek 0x0011 == 0x01 && t.cpu.cycles == 4) = true := by
  decide +kernel

/-- V100: DCP. -/
theorem test_v100_dcp :
    after (step (h1 ({ home with a := 0x40 }) [(0x10, 0x41)] [0xC7, 0x10])) (fun t =>
      t.p == 0x27 && t.peek 0x0010 == 0x40 && t.cpu.cycles == 5) = true := by
  decide +kernel

/-- V102: ISB. -/
theorem test_v102_isb :
    after (step (h1 ({ home with a := 0x10, flags := Flags.ofByte 0x25 }) [(0x10, 0x0F)] [0xE7, 0x10])) (fun t =>
      t.cpu.a == 0x00 && t.p == 0x27 && t.peek 0x0010 == 0x10 && t.cpu.cycles == 5) = true := by
  decide +kernel

/-- V104: SLO. -/
theorem test_v104_slo :
    after (step (h1 ({ home with a := 0x01 }) [(0x10, 0x81)] [0x07, 0x10])) (fun t =>
      t.cpu.a == 0x03 && t.p == 0x25 && t.peek 0x0010 == 0x02 && t.cpu.cycles == 5) = true := by
  decide +kernel

/-- V105: RLA. -/
theorem test_v105_rla :
    after (step (h1 ({ home with a := 0xFF, flags := Flags.ofByte 0x25 }) [(0x10, 0x80)] [0x27, 0x10])) (fun t =>
      t.cpu.a == 0x01 && t.p == 0x25 && t.peek 0x0010 == 0x01 && t.cpu.cycles == 5) = true := by
  decide +kernel

/-- V106: SRE. -/
theorem test_v106_sre :
    after (step (h1 ({ home with a := 0xFF }) [(0x10, 0x03)] [0x47, 0x10])) (fun t =>
      t.cpu.a == 0xFE && t.p == 0xA5 && t.peek 0x0010 == 0x01 && t.cpu.cycles == 5) = true := by
  decide +kernel

/-- V107: RRA adds the carry rotated out. -/
theorem test_v107_rra_adds_the_carry_rotated_out :
    after (step (h1 ({ home with a := 0x10 }) [(0x10, 0x03)] [0x67, 0x10])) (fun t =>
      t.cpu.a == 0x12 && t.p == 0x24 && t.peek 0x0010 == 0x01 && t.cpu.cycles == 5) = true := by
  decide +kernel

/-- V109: SLO absolute Y, no penalty. -/
theorem test_v109_slo_absolute_y_no_penalty :
    after (step (h1 ({ home with y := 0x01 }) [(0x500, 0x40)] [0x1B, 0xFF, 0x04])) (fun t =>
      t.cpu.a == 0x80 && t.p == 0xA4 && t.peek 0x0500 == 0x80 && t.cpu.cycles == 7) = true := by
  decide +kernel

/-- V110: DCP indirect indexed. -/
theorem test_v110_dcp_indirect_indexed :
    after (step (h1 ({ home with y := 0x10 }) [(0x40, 0xF8), (0x41, 0x04), (0x508, 0x01)] [0xD3, 0x40])) (fun t =>
      t.p == 0x27 && t.peek 0x0508 == 0x00 && t.cpu.cycles == 8) = true := by
  decide +kernel

/-- V111: ANC. -/
theorem test_v111_anc :
    after (step (h1 ({ home with a := 0xFF }) [] [0x0B, 0x80])) (fun t =>
      t.cpu.a == 0x80 && t.p == 0xA5 && t.cpu.cycles == 2) = true := by
  decide +kernel

/-- V113: ALR. -/
theorem test_v113_alr :
    after (step (h1 ({ home with a := 0xFF }) [] [0x4B, 0x03])) (fun t =>
      t.cpu.a == 0x01 && t.p == 0x25 && t.cpu.cycles == 2) = true := by
  decide +kernel

/-- V115: ARR sets C. -/
theorem test_v115_arr_sets_c :
    after (step (h1 ({ home with a := 0xFF }) [] [0x6B, 0xC0])) (fun t =>
      t.cpu.a == 0x60 && t.p == 0x25 && t.cpu.cycles == 2) = true := by
  decide +kernel

/-- V116: ARR sets V. -/
theorem test_v116_arr_sets_v :
    after (step (h1 ({ home with a := 0xFF }) [] [0x6B, 0x40])) (fun t =>
      t.cpu.a == 0x20 && t.p == 0x64 && t.cpu.cycles == 2) = true := by
  decide +kernel

/-- V117: AXS. -/
theorem test_v117_axs :
    after (step (h1 ({ home with a := 0xFF, x := 0x10 }) [] [0xCB, 0x01])) (fun t =>
      t.cpu.a == 0xFF && t.cpu.x == 0x0F && t.p == 0x25 && t.cpu.cycles == 2) = true := by
  decide +kernel

/-- V118: AXS borrows and keeps V. -/
theorem test_v118_axs_borrows_and_keeps_v :
    after (step (h1 ({ home with a := 0xFF, x := 0x10, flags := Flags.ofByte 0x65 }) [] [0xCB, 0x20])) (fun t =>
      t.cpu.x == 0xF0 && t.p == 0xE4 && t.cpu.cycles == 2) = true := by
  decide +kernel

/-- V119: the redundant SBC. -/
theorem test_v119_the_redundant_sbc :
    after (step (h1 ({ home with a := 0x10, flags := Flags.ofByte 0x25 }) [] [0xEB, 0x01])) (fun t =>
      t.cpu.a == 0x0F && t.p == 0x25 && t.cpu.cycles == 2) = true := by
  decide +kernel

/-! ### Interrupts, refusals, reset -/

/-- A cartridge with three vectors: NMI $8000, reset $C000, IRQ $C200 (V90, V121). -/
def vectors : Cart :=
  { prgRom := ramOf [(0x3FFB, 0x80), (0x3FFD, 0xC0), (0x3FFF, 0xC2)] }

/-- V121: the NMI entry of R722. -/
theorem test_v121_nmi_entry :
    after (step { h1 { home with pc := 0xC123, flags := Flags.ofByte 0xA0, nmiPending := true } [] [] with
        cart := vectors })
      (fun t => t.peek 0x01FD == 0xC1 && t.peek 0x01FC == 0x23 && t.peek 0x01FB == 0xA0 && t.cpu.sp == 0xFA &&
        t.p == 0xA4 && t.cpu.pc == 0x8000 && t.cpu.cycles == 7 && t.ppu.dot == 21 && !t.cpu.nmiPending) = true := by
  decide +kernel

/-- V90: BRK at $0300, with the IRQ vector $C200. -/
theorem test_v90_brk :
    after (step { h1 home [] [0x00, 0xEA] with cart := vectors })
      (fun t => t.peek 0x01FD == 0x03 && t.peek 0x01FC == 0x02 && t.peek 0x01FB == 0x34 && t.cpu.sp == 0xFA &&
        t.p == 0x24 && t.cpu.pc == 0xC200 && t.cpu.cycles == 7) = true := by
  decide +kernel

/-- V122, step 5: an IRQ from the host is taken with I clear, and its latch is cleared. -/
theorem test_v122_irq_entry :
    after (step { h1 { home with pc := 0xC001, flags := Flags.ofByte 0x20, hostIrq := true } [] [] with cart := vectors })
      (fun t => t.peek 0x01FD == 0xC0 && t.peek 0x01FC == 0x01 && t.peek 0x01FB == 0x20 && t.cpu.pc == 0xC200 &&
        t.p == 0x24 && !t.cpu.hostIrq) = true := by
  decide +kernel

/-- V123: with I set the instruction runs and the host's latch stays. -/
theorem test_v123_irq_masked :
    after (step (h1 { home with hostIrq := true } [] [0xEA])) (fun t => t.cpu.pc == 0x0301 && t.cpu.hostIrq) = true := by
  decide +kernel

/-- V120: a refused opcode has no successor; the state it leaves is the state before it with the mark set, and has no
successor either. -/
theorem test_v120_refused :
    refuses (step (h1 home [] [0x8B])) (.opcode 0x8B) = true ∧
    (h1 home [] [0x8B]).afterRefusal = h1 { home with refused := true } [] [0x8B] ∧
    refuses (step (h1 home [] [0x8B]).afterRefusal) .alreadyRefused = true := by
  decide +kernel

/-- V7, V12: reset leaves S = $FD, P = $24, 7 cycles, the PPU at (0, 21); twice leaves the same. -/
theorem test_v7_reset :
    after (h1 { home with refused := true } [] []).hostReset (fun t => t.cpu.sp == 0xFD && t.p == 0x24 &&
      t.cpu.cycles == 7 && t.ppu.scanline == 0 && t.ppu.dot == 21 && t.apu.apuCycle == 7 && t.apu.fcCycles == 7) = true := by
  decide +kernel

/-- V14: the first step of the conformance boot, the line's registers and its text. -/
theorem test_v14_conformance_step :
    after (step { h1 { home with pc := 0xC000, cycles := 7 } [] [] with
        ppu := { dot := 21 }, cart := { prgRom := ramOf [(0, 0x4C), (1, 0xF5), (2, 0xC5)] } })
      (fun t => t.cpu.pc == 0xC5F5 && t.cpu.cycles == 10 && t.ppu.dot == 30 && t.p == 0x24) = true ∧
    assembly 0xC000 (.jmpAbs 0xC5F5) = "JMP $C5F5" := by
  decide +kernel

/-! ### The bus, DMA, controllers -/

/-- V2: RAM mirrors. -/
theorem test_v2_ram_mirror :
    (((h1 home [] []).write 0x1234 0x42).read 0x0234).1 = 0x42 ∧
    (((h1 home [] []).write 0x07FF 0xAB).read 0x1FFF).1 = 0xAB := by
  decide +kernel

/-- V10: the eight controller reads, and those after them. -/
theorem test_v10_controller :
    let s := (({ h1 home [] [] with bus := { input0 := 0xB4 } }.write 0x4016 1).write 0x4016 0)
    (List.range 10).map (fun n => (((fun u : State => (u.read 0x4016).2)^[n] s).read 0x4016).1) =
      [0x40, 0x40, 0x41, 0x40, 0x41, 0x41, 0x40, 0x41, 0x41, 0x41] := by
  decide +kernel

/-- V126: the stall's length by the parity of the cycle counter. -/
theorem test_v126_dma_stall : dmaStallWith true 104 = 513 ∧ dmaStallWith true 105 = 514 ∧ dmaStallWith false 105 = 513 := by
  decide

/-- V61: one write only, with the other value of RMW_DUMMY_WRITE. -/
theorem test_v61_rmw_once :
    ((h1 home [] []).rmwWith false 0x10 decByte).1 = 0xFF ∧
    ((h1 home [] []).rmwWith false 0x10 decByte).2.peek 0x10 = 0xFF := by
  decide +kernel

/-! ### The PPU -/

/-- The PPU of a state. -/
def withPpu (p : Ppu) : State := { h1 home [] [] with ppu := p }

/-- V5: the palette mirror through ADDR and DATA. -/
theorem test_v5_palette_port :
    let s := ((((withPpu {}).write 0x2006 0x3F).write 0x2006 0x10).write 0x2007 0x11)
    let r := ((s.write 0x2006 0x3F).write 0x2006 0x00).read 0x2007
    r.1 = 0x11 ∧ r.2.ppu.v = 0x3F01 := by
  decide +kernel

/-- V130: scroll and address writes. -/
theorem test_v130_scroll_and_address :
    let s := (((withPpu { t := 0x7FFF }).write 0x2000 0x00).read 0x2002).2
    let s1 := (s.write 0x2005 0x7D).write 0x2005 0x5E
    let s2 := (s1.write 0x2006 0x3D).write 0x2006 0xF0
    s.ppu.t = 0x73FF ∧ (s.write 0x2005 0x7D).ppu.t = 0x73EF ∧ s1.ppu.t = 0x616F ∧ s1.ppu.fineX = 5 ∧
      (s1.write 0x2006 0x3D).ppu.t = 0x3D6F ∧ s2.ppu.t = 0x3DF0 ∧ s2.ppu.v = 0x3DF0 ∧ s2.ppu.w = false := by
  decide +kernel

/-- V133: the buffered DATA read. -/
theorem test_v133_data_read :
    let s := (((withPpu {}).write 0x2006 0x20).write 0x2006 0x00).write 0x2007 0xAB
    let r := ((s.write 0x2006 0x20).write 0x2006 0x00).read 0x2007
    s.ppu.v = 0x2001 ∧ r.1 = 0x00 ∧ (r.2.read 0x2007).1 = 0xAB := by
  decide +kernel

/-- V134: the STATUS read. -/
theorem test_v134_status :
    let r := (withPpu { vblank := true, spriteZeroHit := true, readBuffer := 0x35, w := true }).read 0x2002
    r.1 = 0xD5 ∧ r.2.ppu.status = 0x40 ∧ r.2.ppu.w = false := by
  decide +kernel

/-- V136, V137: the scroll increments. -/
theorem test_v136_scroll_increments :
    [(0x0000 : Loopy), 0x0005, 0x001F, 0x041F].map incrementCoarseX = [0x0001, 0x0006, 0x0400, 0x0000] ∧
    [(0x0000 : Loopy), 0x6000, 0x73A0, 0x7BE0, 0x70A0, 0x7BA0].map incrementY =
      [0x1000, 0x7000, 0x0800, 0x0800, 0x00C0, 0x0000] := by
  decide

/-- V138, V139: attribute and pattern fetches. -/
theorem test_v138_fetch_addresses :
    [(0x0000 : Loopy), 0x0042, 0x0062, 0x0043, 0x0FBF].map attributeAddress = [0x23C0, 0x23C0, 0x23C0, 0x23C0, 0x2FFF] ∧
    [(0x0000 : Loopy), 0x0042, 0x0062, 0x0043, 0x0FBF].map (attributeBits 0xE4) = [0, 3, 3, 3, 1] ∧
    Ppu.patternAddress {} 0x24 0x3000 = 0x0243 ∧ Ppu.patternAddress { ctrl := 0x10 } 0x24 0x3000 = 0x1243 := by
  decide

/-- V140: sprite addresses and the horizontal flip. -/
theorem test_v140_sprite_addresses :
    Ppu.spriteAddress {} 0x42 0x00 3 8 = 0x0423 ∧ Ppu.spriteAddress { ctrl := 8 } 0x42 0x80 3 8 = 0x1424 ∧
    Ppu.spriteAddress {} 0x43 0x00 3 16 = 0x1423 ∧ Ppu.spriteAddress {} 0x43 0x00 12 16 = 0x1434 ∧
    Ppu.spriteAddress {} 0x43 0x80 3 16 = 0x1434 ∧ Ppu.spriteAddress {} 0x42 0x80 15 16 = 0x0420 ∧
    [(0x81 : Byte), 0x0F, 0x12].map reverseByte = [0x81, 0xF0, 0x48] := by
  decide

/-- V4, V141: the palette and nametable maps. -/
theorem test_v141_ppu_maps :
    [(0x3F00 : PpuAddr), 0x3F10, 0x3F14, 0x3F1C, 0x3F11, 0x3F20, 0x3FFF].map paletteIndex =
      [0x00, 0x00, 0x04, 0x0C, 0x11, 0x00, 0x1F] ∧
    [(0x2000 : PpuAddr), 0x2400, 0x2800, 0x2C05, 0x3000, 0x3EFF].map (nametableIndex .horizontal) =
      [0x000, 0x000, 0x400, 0x405, 0x000, 0x6FF] ∧
    [(0x2000 : PpuAddr), 0x2400, 0x2800, 0x2C05, 0x3000, 0x3EFF].map (nametableIndex .vertical) =
      [0x000, 0x400, 0x000, 0x405, 0x000, 0x6FF] := by
  decide

/-- V8: the frame boundary, and the dot skipped on an odd frame with rendering enabled. -/
theorem test_v8_frame_boundary :
    let p := (withPpu { scanline := 261, dot := 340, frame := 3 }).ppuTick.ppu
    let q := (withPpu { scanline := 261, dot := 339, oddFrame := true, mask := 0x18 }).ppuTick.ppu
    p.scanline = 0 ∧ p.dot = 0 ∧ p.frame = 4 ∧ p.frameReady = true ∧ q.scanline = 0 ∧ q.dot = 0 ∧ q.frame = 1 := by
  decide +kernel

/-! ### Other settings -/

/-- R502: INC $2007 reads, writes back and writes, each stepping `v`; without RMW_DUMMY_WRITE there is one access less. -/
theorem test_step_without_dummy_write :
    let s := h1 home [] [0xEE, 0x07, 0x20]
    after (step s) (fun t => t.ppu.v == 3) = true ∧
    after (step (s.withSettings { rmwDummyWrite := false })) (fun t => t.ppu.v == 2) = true := by
  decide +kernel

/-- R711: taking an IRQ clears an MMC3's request where IRQ_AUTOACK_MAPPER is set, and leaves it otherwise. -/
theorem test_step_with_mapper_autoack :
    let s := { h1 { home with flags := {} } [] [] with cart := { mapperId := 4, mmc3 := { irqPending := true } } }
    after (step s) (fun t => t.cart.mmc3.irqPending) = true ∧
    after (step (s.withSettings { irqAutoackMapper := true })) (fun t => !t.cart.mmc3.irqPending) = true := by
  decide +kernel

/-- R297: A12 that was low for 5 dots clocks the counter under A12_FILTER_DOTS 5 and not under the default. -/
theorem test_a12_filter_setting :
    let m : Mmc3 := { irqLatch := 9, a12LowSince := 10 }
    (m.notify 5 0x1000 15).irqCounter = 9 ∧ (m.notify 12 0x1000 15).irqCounter = 0 := by
  decide

/-- R260, R281: a bare header of mapper 4 is rejected for its mapper under a MAPPER_SET of NROM alone. -/
theorem test_mapper_set_setting :
    let image : List Byte := [0x4E, 0x45, 0x53, 0x1A, 0, 0, 0x40, 0, 0, 0, 0, 0, 0, 0, 0, 0]
    imageFault .nrom image = some .unsupportedMapper ∧ imageFault .nromAndMmc3 image = some .noPrgBanks := by
  decide

/-! ### The mapper and the APU -/

/-- V16: the minimal image, its magic first; a wrong magic, a wrong mapper and no PRG are rejected (V150). -/
theorem test_v16_headers :
    imageFault .nromAndMmc3 [0x4E, 0x45, 0x53, 0x1B, 1, 0, 0, 0, 0, 0, 0, 0, 0, 0, 0, 0] = some .badMagic ∧
    imageFault .nromAndMmc3 [0x4E, 0x45, 0x53, 0x1A, 1, 0, 0, 0, 0, 0, 0, 0, 0, 0, 0, 0] = some .truncatedImage ∧
    (Header.ofBytes 1 0 0x41 0x00).mapperId = 4 ∧ (Header.ofBytes 1 0 0x41 0x00).mirroring = .vertical ∧
    (Header.ofBytes 1 0 0x00 0x40).mapperId = 64 := by
  decide +kernel

/-- V146, V147: the MMC3 banks. -/
theorem test_v146_mmc3_banks :
    let m : Mmc3 := { r6 := 0x45, r7 := 7, r0 := 0x09, r2 := 0x20 }
    [0, 1, 2, 3].map (m.prgBank 16) = [5, 7, 14, 15] ∧
    [0, 1, 2, 3].map ({ m with prgMode := true }.prgBank 16) = [14, 7, 5, 15] ∧
    [0, 1, 4].map m.chrBank = [8, 9, 0x20] ∧ [4, 5, 0].map { m with chrMode := true }.chrBank = [8, 9, 0x20] := by
  decide

/-- V149: the interrupt counter, from the latch 3. -/
theorem test_v149_mmc3_irq :
    let m : Mmc3 := { irqLatch := 3, irqReload := true, irqEnable := true }
    [1, 2, 3, 4].map (fun n => ((Mmc3.clockIrqCounter^[n] m).irqCounter, (Mmc3.clockIrqCounter^[n] m).irqPending)) =
      [(3, false), (2, false), (1, false), (0, true)] := by
  decide

/-- V151, V153: lengths and the $4015 port. -/
theorem test_v151_length :
    let u := (Apu.write {} 0x15 0x01).write 0x03 0x08
    u.p1.length = 254 ∧ u.statusByte = 0x01 ∧ (Apu.write {} 0x03 0x08).p1.length = 0 ∧ (u.write 0x15 0).p1.length = 0 ∧
      (Apu.statusRead { frameIrq := true }).1 = 0x40 ∧ (Apu.statusRead { frameIrq := true }).2.frameIrq = false := by
  decide

/-- V154: sweep targets. -/
theorem test_v154_sweep :
    let p (load : BitVec 11) (shift : BitVec 3) (neg : Bool) : Pulse := { timerLoad := load, swShift := shift, swNeg := neg }
    (p 0x100 1 true).sweepTarget true = 0x7F ∧ (p 0x100 1 true).sweepTarget false = 0x80 ∧
    (p 0x100 1 false).sweepTarget true = 0x180 ∧ (p 0x600 1 false).sweepMute true = true ∧
    (p 0x008 3 true).sweepTarget true = 6 ∧ (p 0x007 0 false).sweepMute true = true ∧
    (p 0x7FF 0 true).sweepTarget true = -1 := by
  decide

/-- V155, V156, V158: the envelope, the noise register and the DMC level. -/
theorem test_v155_units :
    [1, 2, 16, 17].map (fun n => (Envelope.clock^[n] { start := true }).decay) = [15, 14, 0, 0] ∧
    (Noise.shiftLfsr {}) = 0x4000 ∧
    (Dmc.nextLevel { level := 126, shifter := 1, silence := false }) = 126 ∧
    (Dmc.nextLevel { level := 1, shifter := 0, silence := false }) = 1 ∧
    (Dmc.nextLevel { level := 64, shifter := 1, silence := false }) = 66 := by
  decide


/-! ### Witnesses: states and operands that meet the hypotheses of the obligations -/

/-- That an instruction completes, and what it answers satisfies `f`. -/
def Completes (i : Instr) (s : State) (f : State → Bool) : Prop := ∃ t, exec i s = .next t ∧ f t = true

/-- `Completes` by evaluation. -/
theorem completes {i : Instr} {s : State} {f : State → Bool} (h : after (exec i s) f = true) : Completes i s f :=
  next_of_after h

theorem witness_DecodeThenEncode :
    decode [0x6C, 0xFF, 0x02, 0xEA] = .instr (.jmpInd 0x02FF) [0xEA] ∧ decode [0xA9, 0x80] = .instr (.ldaImm 0x80) [] ∧
      decode [0x8B] = .instr .xaa8B [] := by
  decide

theorem witness_RefusedOpcodesStop :
    (Instr.jam02, (0x02 : Byte)) ∈ refusedForms ∧ (Instr.lasBB, (0xBB : Byte)) ∈ refusedForms := by
  decide

/-- An immediate load at $0300. -/
def loadAt : State := h1 home [] [0xA9, 0x80, 0xEA]

theorem loadAt_ready : loadAt.ready := by
  unfold State.ready
  decide +kernel

theorem witness_StepRunsDecodedInstruction :
    loadAt.ready ∧ plainAddress loadAt.cpu.pc = true ∧ plainAddress (loadAt.cpu.pc + 1) = true ∧
    plainAddress (loadAt.cpu.pc + 2) = true ∧
    decode [loadAt.peek loadAt.cpu.pc, loadAt.peek (loadAt.cpu.pc + 1), loadAt.peek (loadAt.cpu.pc + 2)] =
      .instr (.ldaImm 0x80) [0xEA] ∧
    Completes (.ldaImm 0x80) (loadAt.withCpu { loadAt.cpu with pc := loadAt.cpu.pc + 2 }) (fun t => t.cpu.a == 0x80) :=
  ⟨loadAt_ready, by decide +kernel, by decide +kernel, by decide +kernel, by decide +kernel,
    completes (by decide +kernel)⟩

/-- The last three bytes of the RAM mirrors, and three bytes around the end of the address space. -/
theorem witness_StepRunsDecodedInstruction_boundaries :
    (plainAddress 0x1FFD = true ∧ plainAddress (0x1FFD + 1) = true ∧ plainAddress (0x1FFD + 2) = true ∧
      plainAddress 0x2000 = false ∧ plainAddress 0x5FFF = false ∧ plainAddress 0x6000 = true) ∧
    (plainAddress 0xFFFE = true ∧ plainAddress (0xFFFE + 1) = true ∧ plainAddress (0xFFFE + 2) = true) ∧
    (let s := h1 { home with pc := 0x1FFD } [(0x7FD, 0xAD), (0x7FE, 0x34), (0x7FF, 0x12)] []
     decode [s.peek s.cpu.pc, s.peek (s.cpu.pc + 1), s.peek (s.cpu.pc + 2)] = .instr (.ldaAbs 0x1234) []) := by
  decide +kernel

/-- The refused clause. -/
theorem witness_StepRunsDecodedInstruction_refused :
    let s := h1 home [] [0x8B, 0, 0]
    s.ready ∧ plainAddress s.cpu.pc = true ∧ plainAddress (s.cpu.pc + 1) = true ∧ plainAddress (s.cpu.pc + 2) = true ∧
    decode [s.peek s.cpu.pc, s.peek (s.cpu.pc + 1), s.peek (s.cpu.pc + 2)] = .instr .xaa8B [0, 0] ∧
    exec .xaa8B (s.withCpu { s.cpu with pc := s.cpu.pc + 1 }) = .refused (.opcode 0x8B) := by
  refine ⟨?_, by decide +kernel, by decide +kernel, by decide +kernel, by decide +kernel, rfl⟩
  unfold State.ready
  decide +kernel

/-- One, two and three bytes; a ready state whose instruction completes. -/
theorem witness_FetchReadsTheInstruction :
    lengthOf 0xEA = 1 ∧ lengthOf 0xA9 = 2 ∧ lengthOf 0xAD = 3 ∧
    ((h1 home [] [0xEA]).read 0x0300).1 = 0xEA ∧ (loadAt.read 0x0300).1 = 0xA9 ∧
    ((h1 home [] [0xAD, 0x34, 0x12]).read 0x0300).1 = 0xAD ∧
    loadAt.ready ∧ Completes loadAt.fetchInstr.1 loadAt.fetchInstr.2 (fun t => t.cpu.a == 0x80) :=
  ⟨by decide, by decide, by decide, by decide +kernel, by decide +kernel, by decide +kernel, loadAt_ready,
    completes (by decide +kernel)⟩

/-- No extra cycle, the page penalty, a branch taken on its page and to another. -/
theorem witness_AdmittedInstructionsComplete :
    (Instr.ldaAbsX 0x02FF).wellFormed = true ∧
    (Instr.ldaAbsX 0x02FF).row.baseCycles = 4 ∧ (Instr.ldaAbsX 0x02FF).row.pagePenalty = true ∧
    Completes (.ldaAbsX 0x02FF) (h1 home [] []) (fun t => t.cpu.cycles == 4) ∧
    Completes (.ldaAbsX 0x02FF) (h1 { home with x := 1 } [] []) (fun t => t.cpu.cycles == 5) ∧
    (Instr.bcc 0x10).row.mode = some .relative ∧
    Completes (.bcc 0x10) (h1 home [] []) (fun t => t.cpu.cycles == 3) ∧
    Completes (.bcc 0x80) (h1 home [] []) (fun t => t.cpu.cycles == 4) :=
  ⟨by decide, by decide, by decide, completes (by decide +kernel), completes (by decide +kernel), by decide,
    completes (by decide +kernel), completes (by decide +kernel)⟩

/-- No list of forms is empty. -/
theorem witness_forms :
    [ldaForms 0 0, ldxForms 0 0, ldyForms 0 0, laxForms 0 0, adcForms 0 0, sbcForms 0 0, andForms 0 0, oraForms 0 0,
      eorForms 0 0, cmpForms 0 0, cpxForms 0 0, cpyForms 0 0, bitForms 0 0, ancForms 0 0, alrForms 0 0, arrForms 0 0,
      axsForms 0 0, nopForms 0 0, sbcRedundantForms 0 0].all (fun l => !l.isEmpty) = true ∧
    [staForms 0 0, stxForms 0 0, styForms 0 0, saxForms 0 0, incForms 0 0, decForms 0 0, aslForms 0 0, lsrForms 0 0,
      rolForms 0 0, rorForms 0 0, sloForms 0 0, rlaForms 0 0, sreForms 0 0, rraForms 0 0, dcpForms 0 0,
      isbForms 0 0].all (fun l => !l.isEmpty) = true ∧
    nopImplied.length = 7 ∧ (branchForms 0).length = 8 := by
  decide

/-- The instructions that have no operand in memory and are in no list of `Safety`. -/
def otherInstrs : List Instr :=
  [.aslAcc, .lsrAcc, .rolAcc, .rorAcc, .tax, .tay, .txa, .tya, .tsx, .txs, .inx, .iny, .dex, .dey, .clc, .sec, .cli,
    .sei, .cld, .sed, .clv, .pha, .pla]

/-- The rest of them. -/
def controlInstrs : List Instr := [.php, .plp, .jmpAbs 0, .jmpInd 0, .jsrAbs 0, .rts, .rti, .brk]

/-- Every instruction, by the lists the obligations use. -/
def everyInstr : List Instr :=
  List.flatten [(readForms 0 0).map ReadForm.instr, (storeForms 0 0).map MemForm.instr, (rmwForms 0 0).map MemForm.instr,
    nopImplied, (branchForms 0).map Prod.fst, refusedForms.map Prod.fst, otherInstrs, controlInstrs]

/-- Every opcode byte stands in exactly one of the lists: 256 entries, and the opcode bytes make up all 256 bits. -/
theorem witness_forms_cover_the_table :
    everyInstr.length = 256 ∧
    everyInstr.foldl (fun m i => m ||| 1 <<< ((encode i).headD 0).toNat) 0 = 2 ^ 256 - 1 := by
  decide +kernel

/-- Indexing that crosses a page and indexing that does not; a pointer at the end of the zero page. -/
theorem witness_EffectiveAddresses :
    let s := h1 { home with x := 0x01, y := 0x10 } [(0xFF, 0xF8), (0x00, 0x04)] []
    ((Mem.absX 0x02FF).resolve s).crossed = true ∧ ((Mem.absX 0x02FE).resolve s).crossed = false ∧
    ((Mem.absY 0x02F0).resolve s).crossed = true ∧ ((Mem.absY 0x02EF).resolve s).crossed = false ∧
    ((Mem.indY 0xFF).resolve s).crossed = true ∧ ((Mem.indY 0xFF).resolve s).ea = 0x0508 ∧
    ((Mem.indX 0xFE).resolve s).ea = 0x04F8 ∧ ((Mem.zpX 0xFF).resolve s).ea = 0x0000 ∧
    ((Mem.absX 0xFFFF).resolve s).ea = 0x0000 := by
  decide +kernel

/-- A memory form in plain memory, one at a device, and an immediate. -/
theorem witness_ReadingInstructionsFrame :
    (⟨.ldaAbs 0x1FFF, .mem (.abs 0x1FFF), 4, false⟩ : ReadForm) ∈ readForms 0 0x1FFF ∧
    plainAddress ((Mem.abs 0x1FFF).resolve loadAt).ea = true ∧ Completes (.ldaAbs 0x1FFF) loadAt (fun _ => true) ∧
    plainAddress ((Mem.abs 0x2002).resolve loadAt).ea = false ∧ Completes (.ldaAbs 0x2002) loadAt (fun _ => true) ∧
    (⟨.arrImm 0x7F, .imm 0x7F, 2, false⟩ : ReadForm) ∈ readForms 0x7F 0 ∧ Completes (.arrImm 0x7F) loadAt (fun _ => true) :=
  ⟨List.mem_of_getElem? (i := 3) rfl, by decide +kernel, completes (by decide +kernel), by decide +kernel,
    completes (by decide +kernel), List.mem_of_getElem? (i := 83) rfl, completes (by decide +kernel)⟩

/-- 127 + 1 and -128 - 1 overflow, 1 + 1 does not. -/
theorem witness_OverflowIsSigned :
    Completes (.adcImm 1) (h1 { home with a := 0x7F } [] []) (fun t => t.cpu.flags.v && t.cpu.a == 0x80) ∧
    Completes (.adcImm 1) (h1 { home with a := 1 } [] []) (fun t => !t.cpu.flags.v && t.cpu.a == 2) ∧
    Completes (.sbcImm 0) (h1 { home with a := 0x80 } [] []) (fun t => t.cpu.flags.v && t.cpu.a == 0x7F) ∧
    Completes (.sbcImm 0) (h1 { home with a := 1 } [] []) (fun t => !t.cpu.flags.v && t.cpu.a == 0) :=
  ⟨completes (by decide +kernel), completes (by decide +kernel), completes (by decide +kernel),
    completes (by decide +kernel)⟩

/-- A store and a read-modify-write, in RAM, at a PPU register, and at the OAM-DMA port. -/
theorem witness_StoringInstructionsFrame :
    (⟨.staAbs 0x1FFF, .abs 0x1FFF, 4⟩ : MemForm) ∈ storeForms 0 0x1FFF ∧
    (⟨.incAbs 0x2000, .abs 0x2000, 6⟩ : MemForm) ∈ rmwForms 0 0x2000 ∧
    Completes (.staAbs 0x1FFF) loadAt (fun _ => true) ∧ Completes (.incAbs 0x2000) loadAt (fun _ => true) ∧
    Completes (.staAbs 0x4014) loadAt (fun t => t.bus.dmaPending) ∧ Completes (.dcpAbs 0x6000) loadAt (fun _ => true) ∧
    Completes (.incAbs 0x4016) loadAt (fun t => t.bus.shift0 == 0x80) ∧
    Completes (.incAbs 0x4017) loadAt (fun t => t.bus.shift1 == 0x80) ∧
    Completes (.staAbs 0xE001) { loadAt with cart := { mapperId := 4 } } (fun t => t.cart.mmc3.irqEnable) ∧
    ¬ namesPpuData 0x2006 ∧ namesPpuData 0x3FFF ∧ ¬ namesPpuData 0x4007 :=
  ⟨List.mem_of_getElem? (i := 2) rfl, List.mem_of_getElem? (i := 1) rfl, completes (by decide +kernel),
    completes (by decide +kernel), completes (by decide +kernel), completes (by decide +kernel),
    completes (by decide +kernel), completes (by decide +kernel), completes (by decide +kernel),
    by unfold namesPpuData; decide, by unfold namesPpuData; decide, by unfold namesPpuData; decide⟩

/-- An `Entered` state for each copy of P, from a stack index that wraps; a JSR. -/
theorem witness_ReturnsUndoEntries :
    Completes (.jsrAbs 0x0400) loadAt (fun t => t.cpu.pc == 0x0400) ∧
    (∀ s : State, Entered s.cpu.flags.pushedByInstruction 0xFFFE s
      ((s.enterHandler s.cpu.flags.pushedByInstruction 0xFFFE).addCycles 7)) ∧
    (∀ s : State, Entered s.cpu.flags.pushedByInterrupt 0xFFFA s
      ((s.enterHandler s.cpu.flags.pushedByInterrupt 0xFFFA).addCycles 7)) :=
  ⟨completes (by decide +kernel), fun s => s.enterHandler_entered _ (by decide), fun s => s.enterHandler_entered _ (by decide)⟩

theorem witness_NmiIsTakenFirst :
    let s := h1 { home with nmiPending := true, hostIrq := true } [] []
    s.cpu.refused = false ∧ s.cart.attached = true ∧ s.cpu.nmiPending = true := by
  decide

/-- The three sources of the line. -/
theorem witness_IrqIsTakenWhenNotMasked :
    (let s := h1 { home with flags := {}, hostIrq := true } [] []
     s.cpu.refused = false ∧ s.cart.attached = true ∧ s.cpu.nmiPending = false ∧ s.cpu.flags.i = false ∧
       s.cpu.hostIrq = true) ∧
    (let s := { h1 { home with flags := {} } [] [] with apu := { frameIrq := true } }
     s.cpu.refused = false ∧ s.cart.attached = true ∧ s.cpu.nmiPending = false ∧ s.cpu.flags.i = false ∧
       s.apu.frameIrq = true) ∧
    (let s := { h1 { home with flags := {} } [] [] with cart := { mapperId := 4, mmc3 := { irqPending := true } } }
     s.cpu.refused = false ∧ s.cart.attached = true ∧ s.cpu.nmiPending = false ∧ s.cpu.flags.i = false ∧
       s.cart.mapperId = 4 ∧ s.cart.mmc3.irqPending = true ∧ s.settings.irqAutoackMapper = false ∧
       (s.withSettings { irqAutoackMapper := true }).settings.irqAutoackMapper = true) := by
  decide

theorem witness_StepPriority :
    (h1 { home with refused := true } [] []).cpu.refused = true ∧
    (let s := { h1 home [] [] with cart := { attached := false } }
     s.cpu.refused = false ∧ s.cart.attached = false) ∧
    (let s := h1 { home with hostIrq := true } [] []
     s.cpu.refused = false ∧ s.cart.attached = true ∧ s.cpu.nmiPending = false ∧ s.cpu.flags.i = true ∧
       s.irqLine = true) := by
  decide

/-- An instruction with a pending NMI; a tick with one; a step that takes an IRQ with each request standing. -/
theorem witness_InterruptRequestsAreKept :
    Completes .cli (h1 { home with nmiPending := true } [] []) (fun t => t.cpu.nmiPending) ∧
    (h1 { home with nmiPending := true } [] []).cpu.nmiPending = true ∧
    (let s := { h1 { home with flags := {} } [] [] with
       apu := { frameIrq := true }, cart := { mapperId := 4, mmc3 := { irqPending := true } } }
     (∃ t, step s = .next t ∧ (t.cpu.cycles == 7) = true) ∧ s.irqLine = true ∧ s.cpu.flags.i = false ∧
       s.apu.frameIrq = true ∧ s.settings.irqAutoackMapper = false ∧ s.cart.mmc3.irqPending = true) :=
  ⟨completes (by decide +kernel), by decide, next_of_after (by decide +kernel), by decide, by decide, by decide, by decide,
    by decide⟩

/-- A memory listed in the tests is canonical. -/
theorem loadAt_inv : loadAt.Inv where
  ram := ⟨by decide +kernel, by decide +kernel⟩
  ppu :=
    { scanline := by decide, dot := by decide, sprCount := by decide, slots := by decide +kernel
      ntRam := ⟨by decide, by decide⟩, palette := ⟨by decide, by decide⟩
      oam := ⟨by decide, by decide⟩, oam2 := ⟨by decide, by decide⟩
      framebuffer := ⟨by decide, by decide⟩ }
  apu :=
    { lfsr := by decide, fcCycles := by decide, fcStep := by decide, sampleAcc := by decide, samples := by decide
      bitsLeft := by decide, curAddr := by decide }
  cart := { prgRom := ⟨by decide, by decide⟩, chr := ⟨by decide, by decide⟩, prgRam := ⟨by decide, by decide⟩ }
  clock := by decide

theorem witness_StepKeepsInvariant : loadAt.Inv ∧ ∃ t, step loadAt = .next t ∧ (t.cpu.a == 0x80) = true :=
  ⟨loadAt_inv, next_of_after (by decide +kernel)⟩

/-- Two cycles move the PPU six dots. -/
theorem witness_StepKeepsClockRatio :
    loadAt.Inv ∧ ∃ t, step loadAt = .next t ∧ (t.cpu.cycles == 2 && t.ppu.position == 6 && t.apu.apuCycle == 2) = true :=
  ⟨loadAt_inv, next_of_after (by decide +kernel)⟩

/-- A step with CHR-ROM, which stores to PRG-ROM. -/
theorem witness_StepKeepsReadOnlyMemory :
    let s := { h1 home [] [0x8D, 0x00, 0x80] with cart := { chrIsRam := false, chrBanks := 1 } }
    (∃ t, step s = .next t ∧ (t.cpu.pc == 0x0303) = true) ∧ s.cart.chrIsRam = false :=
  ⟨next_of_after (by decide +kernel), rfl⟩

theorem witness_TickLeavesTheCpuAlone :
    loadAt.apu.Inv ∧ (h1 { home with nmiPending := true } [] []).apu.Inv ∧
      (h1 { home with nmiPending := true } [] []).cpu.nmiPending = true :=
  ⟨loadAt_inv.apu, loadAt_inv.apu, rfl⟩

theorem witness_ResetSetsTheMachine :
    ({ loadAt with cart := { attached := false } } : State).cart.attached = false ∧ loadAt.cart.attached = true ∧
    loadAt.cart.mapperId ≠ 4 ∧
    (let s : State := { loadAt with cart := { mapperId := 4, mmc3 := { irqEnable := true } } }
     s.cart.attached = true ∧ s.cart.mapperId = 4) := by
  decide

theorem witness_ResetIsIdempotent : ∃ t, loadAt.hostReset = .next t ∧ (t.cpu.sp == 0xFD) = true :=
  next_of_after (by decide +kernel)

/-- The first and last byte of the mirrors, and a byte that is none of the four. -/
theorem witness_RamIsMirroredFourTimes :
    (0x1FFF : Word).toNat < 0x2000 ∧ (0x0000 : Word).toNat < 0x2000 ∧
    (let a : Word := 0x07FF
     let b : Word := 0x07FE
     b.toNat < 0x2000 ∧ b ≠ a ∧ b ≠ a ^^^ 0x0800 ∧ b ≠ a ^^^ 0x1000 ∧ b ≠ a ^^^ 0x1800) := by
  decide

theorem witness_PpuRegistersAreMirrored :
    let a : Word := 0x2000
    let b : Word := 0x3FF8
    0x2000 ≤ a.toNat ∧ a.toNat < 0x4000 ∧ 0x2000 ≤ b.toNat ∧ b.toNat < 0x4000 ∧ a.toNat % 8 = b.toNat % 8 := by
  decide

/-- The ends of each range; the blank cartridge is an NROM of one bank. -/
theorem witness_PlainMemoryReadsBack :
    plainAddress 0x1FFF = true ∧ plainAddress 0x6000 = true ∧ plainAddress 0xFFFF = true ∧
    (0x1FFF : Word).toNat < 0x2000 ∧ 0x6000 ≤ (0x6000 : Word).toNat ∧ (0x7FFF : Word).toNat < 0x8000 ∧
    0x8000 ≤ (0x8000 : Word).toNat ∧ 0x8000 ≤ (0xFFFF : Word).toNat ∧
    loadAt.cart.mapperId ≠ 4 ∧ loadAt.cart.prgBanks = 1 := by
  decide

/-- The ends of the nametable space and of the palette space. -/
theorem witness_PpuMemoryMirrors :
    0x2000 ≤ (0x2000 : PpuAddr).toNat ∧ (0x3EFF : PpuAddr).toNat < 0x3F00 ∧ 0x3F00 ≤ (0x3F00 : PpuAddr).toNat ∧
    0x3F00 ≤ (0x3FFF : PpuAddr).toNat := by
  decide

/-- An address of each register of the PPU, in the first and in the last mirror. -/
theorem witness_PpuPorts :
    (List.range 8).all (fun n =>
      [0x2000 + n, 0x3FF8 + n].all fun k =>
        decide (0x2000 ≤ (BitVec.ofNat 16 k : Word).toNat ∧ (BitVec.ofNat 16 k : Word).toNat < 0x4000 ∧
          (BitVec.ofNat 16 k : Word).toNat % 8 = n)) = true := by
  decide

theorem witness_StatusAndOamPorts :
    let a : Word := 0x3FFA
    0x2000 ≤ a.toNat ∧ a.toNat < 0x4000 ∧ a.toNat % 8 = 2 := by
  decide

/-- CTRL written with bit 7 during VBlank. -/
theorem witness_CtrlWriteRaisesNmi :
    let s := withPpu { vblank := true }
    0x2000 ≤ (0x2000 : Word).toNat ∧ (0x2000 : Word).toNat < 0x4000 ∧ (0x2000 : Word).toNat % 8 = 0 ∧
      (s.write 0x2000 0x80).cpu.nmiPending = true ∧ (s.write 0x2000 0x00).cpu.nmiPending = false := by
  decide +kernel

/-- Each toggle. -/
theorem witness_ScrollAndAddrShareTheToggle :
    (0x2005 : Word).toNat % 8 = 5 ∧ (0x3FFE : Word).toNat % 8 = 6 ∧ (withPpu {}).ppu.w = false ∧
      (withPpu { w := true }).ppu.w = true := by
  decide

/-- `v` on either side of the palette's first address, CHR-RAM and CHR-ROM. -/
theorem witness_DataPortIsBuffered :
    (0x2007 : Word).toNat % 8 = 7 ∧
    ((withPpu { v := 0x3EFF }).ppu.v.extractLsb' 0 14 : PpuAddr).toNat < 0x3F00 ∧
    0x3F00 ≤ ((withPpu { v := 0x3F00 }).ppu.v.extractLsb' 0 14 : PpuAddr).toNat ∧
    ((withPpu { v := 0x1FFF }).ppu.v.extractLsb' 0 14 : PpuAddr).toNat < 0x2000 ∧
    ({ withPpu {} with cart := { chrIsRam := false } } : State).cart.chrIsRam = false ∧
    (sameVideoByte {} 0x1FFF 0x1FFF ∧ ¬ sameVideoByte {} 0x1FFF 0x2000) ∧
    (sameVideoByte { mapperId := 4, mmc3 := { r0 := 2, r1 := 2 } } 0x0000 0x0800) ∧
    (sameVideoByte {} 0x2000 0x3400 ∧ ¬ sameVideoByte {} 0x3EFF 0x3F00) ∧
    (sameVideoByte {} 0x3F10 0x3FE0 ∧ ¬ sameVideoByte {} 0x3F11 0x3F01 ∧ ¬ sameVideoByte {} 0x3F00 0x3EFF) := by
  unfold sameVideoByte
  decide

theorem witness_ControllersShift :
    ({ loadAt with bus := { strobe := true } } : State).bus.strobe = true ∧ loadAt.bus.strobe = false := by
  decide

/-- The pages at the ends of the ranges. -/
theorem witness_OamDmaCopiesAPage :
    ({ loadAt with bus := { dmaPage := 0x1F } } : State).bus.dmaPage.toNat < 0x20 ∧
    0x60 ≤ ({ loadAt with bus := { dmaPage := 0x60 } } : State).bus.dmaPage.toNat ∧
    0x60 ≤ ({ loadAt with bus := { dmaPage := 0xFF } } : State).bus.dmaPage.toNat := by
  decide

theorem witness_VBlankStartsAndEnds :
    ((withPpu { scanline := 241, dot := 1 }).ppu.scanline = 241 ∧ (withPpu { scanline := 241, dot := 1 }).ppu.dot = 1) ∧
    ((withPpu { scanline := 261, dot := 1 }).ppu.scanline = 261 ∧ (withPpu { scanline := 261, dot := 1 }).ppu.dot = 1) ∧
    ¬ ((withPpu { scanline := 241, dot := 2 }).ppu.scanline = 241 ∧ (withPpu { scanline := 241, dot := 2 }).ppu.dot = 1) := by
  decide

theorem blank_ppu_inv : Ppu.Inv {} where
  scanline := by decide
  dot := by decide
  sprCount := by decide
  slots := by decide +kernel
  ntRam := ⟨by decide, by decide⟩
  palette := ⟨by decide, by decide⟩
  oam := ⟨by decide, by decide⟩
  oam2 := ⟨by decide, by decide⟩
  framebuffer := ⟨by decide, by decide⟩

/-- The PPU of a test with its place and mask is in its invariant. -/
theorem ppu_inv (line dot : Nat) (odd : Bool) (m : Byte) (h : line ≤ 261) (k : dot ≤ 340) :
    Ppu.Inv { scanline := line, dot := dot, oddFrame := odd, mask := m } where
  scanline := h
  dot := k
  sprCount := blank_ppu_inv.sprCount
  slots := blank_ppu_inv.slots
  ntRam := blank_ppu_inv.ntRam
  palette := blank_ppu_inv.palette
  oam := blank_ppu_inv.oam
  oam2 := blank_ppu_inv.oam2
  framebuffer := blank_ppu_inv.framebuffer

/-- The skipped dot, the end of a frame, the end of a line, and the first and last line that touch no memory. -/
theorem witness_FrameGeometry :
    (let p : Ppu := { scanline := 261, dot := 339, oddFrame := true, mask := 0x08 }
     p.Inv ∧ p.scanline = 261 ∧ p.dot = 339 ∧ p.oddFrame = true ∧ p.renderingEnabled = true) ∧
    (let p : Ppu := { scanline := 261, dot := 340 }
     p.Inv ∧ (withPpu p).ppuTick.ppu.frame ≠ p.frame) ∧
    (let p : Ppu := { scanline := 240, dot := 340, mask := 0x18 }
     p.Inv ∧ (withPpu p).ppuTick.ppu.frame = p.frame ∧ 240 ≤ p.scanline ∧ p.scanline ≤ 260) ∧
    (let p : Ppu := { scanline := 260, dot := 0, mask := 0x18 }
     p.Inv ∧ 240 ≤ p.scanline ∧ p.scanline ≤ 260) :=
  ⟨⟨ppu_inv 261 339 true 0x08 (by decide) (by decide), by decide⟩,
    ⟨ppu_inv 261 340 false 0 (by decide) (by decide), by decide +kernel⟩,
    ⟨ppu_inv 240 340 false 0x18 (by decide) (by decide), by decide +kernel, by decide, by decide⟩,
    ⟨ppu_inv 260 0 false 0x18 (by decide) (by decide), by decide, by decide⟩⟩

/-- Every sprite on line 0: nine and more found. Only line 0's last, entry 63, on line 5: one found. -/
theorem witness_SpriteEvaluation :
    (let p : Ppu := {}
     p.slots.length = 8 ∧ (p.evaluateSprites 0).sprCount = 8 ∧ (p.evaluateSprites 0).overflow = true) ∧
    (let p : Ppu := { oam := ramOf ((List.range 63).map fun i => (4 * i, 0xFF)) }
     p.slots.length = 8 ∧ (p.evaluateSprites 7).sprCount = 1 ∧ (p.evaluateSprites 7).overflow = false ∧
       (p.evaluateSprites 8).sprCount = 0) := by
  decide +kernel

/-- The DMC bit clear, set with bytes left, set with none left. -/
theorem witness_ApuStatusAndEnables :
    (0x0F : Byte).getLsbD 4 = false ∧ (0x10 : Byte).getLsbD 4 = true ∧
    (({ bytesLeft := 1 } : Dmc).bytesLeft ≠ 0) ∧ loadAt.apu.dmc.bytesLeft = 0 := by
  decide

/-- The ends of each window, each mode. -/
theorem witness_Mmc3BanksAndIrq :
    let c : Cart := { mapperId := 4 }
    c.mapperId = 4 ∧ 1 ≤ c.prgBanks ∧ 0xE000 ≤ (0xE000 : Word).toNat ∧ 0xE000 ≤ (0xFFFF : Word).toNat ∧
    c.mmc3.prgMode = false ∧ 0xC000 ≤ (0xC000 : Word).toNat ∧ (0xDFFF : Word).toNat < 0xE000 ∧
    ({ prgMode := true } : Mmc3).prgMode = true ∧ 0x8000 ≤ (0x8000 : Word).toNat ∧ (0x9FFF : Word).toNat < 0xA000 := by
  decide

end Sys2Proof.Tests
end

section
/-! The statements about memory (spec 20): the RAM mirrors (R202), the PPU register mirrors (R203), the controller
ports (R242). -/

namespace Sys2Proof.Machine

/-! ### The RAM mirrors -/

/-- A RAM read after a RAM write: the value written where the addresses agree modulo $0800 (R202), else what
was there. -/
theorem State.read_write_ram (s : State) {a b : Word} (ha : a.toNat < 0x2000) (hb : b.toNat < 0x2000) (v : Byte) :
    ((s.write a v).read b).1 = if b.toNat % 0x800 = a.toNat % 0x800 then v else (s.read b).1 := by
  rw [s.write_ram ha, State.read_ram _ hb, s.read_ram hb]
  exact Memory.get_set ..

/-- The address bits that tell the four RAM pages apart. -/
def ramMirrors : List Word := [(0 : Word), 0x0800, 0x1000, 0x1800]

theorem mem_ramMirrors_iff (m : Word) : m ∈ ramMirrors ↔ m.toNat < 0x2000 ∧ m.toNat % 0x800 = 0 := by
  simp only [ramMirrors, List.mem_cons, List.not_mem_nil, or_false]
  bv_omega

theorem xor_lt_ram {a b : Word} (ha : a.toNat < 0x2000) (hb : b.toNat < 0x2000) : (a ^^^ b).toNat < 0x2000 := by
  rw [BitVec.toNat_xor]
  exact Nat.xor_lt_two_pow (n := 13) ha hb

/-- Inverting the bits of `m` moves an address between mirrors exactly when `m` has no bit below $0800. -/
theorem xor_mod_ram_iff (a m : Word) : (a ^^^ m).toNat % 0x800 = a.toNat % 0x800 ↔ m.toNat % 0x800 = 0 := by
  rw [BitVec.toNat_xor, show 0x800 = 2 ^ 11 from rfl, Nat.xor_mod_two_pow, xor_left_eq_self_iff]

/-- The RAM addresses that agree with `a` modulo $0800 are `a` and its three mirrors. -/
theorem ramMirror_iff {a b : Word} (ha : a.toNat < 0x2000) (hb : b.toNat < 0x2000) :
    b.toNat % 0x800 = a.toNat % 0x800 ↔ ∃ m ∈ ramMirrors, b = a ^^^ m := by
  constructor
  · intro h
    have hm : a ^^^ (a ^^^ b) = b := by rw [← BitVec.xor_assoc, BitVec.xor_self, BitVec.zero_xor]
    refine ⟨a ^^^ b, (mem_ramMirrors_iff _).2 ⟨xor_lt_ram ha hb, ?_⟩, hm.symm⟩
    rwa [← xor_mod_ram_iff a, hm]
  · rintro ⟨m, hm, rfl⟩
    exact (xor_mod_ram_iff a m).2 ((mem_ramMirrors_iff m).1 hm).2

/-- Settles O46: a RAM read sees a RAM write exactly at the mirrors of the address written. -/
theorem ramIsMirroredFourTimes : Obligations.RamIsMirroredFourTimes := by
  intro s a v ha
  refine ⟨fun m hm => ?_, fun b hb h0 h8 h10 h18 => ?_⟩
  · have hlt := xor_lt_ram ha ((mem_ramMirrors_iff m).1 hm).1
    exact ⟨hlt, by rw [s.read_write_ram ha hlt, if_pos ((ramMirror_iff ha hlt).2 ⟨m, hm, rfl⟩)]⟩
  · have hn : ¬ ∃ m ∈ ramMirrors, b = a ^^^ m := by
      simpa [ramMirrors] using ⟨h0, h8, h10, h18⟩
    rw [s.read_write_ram ha hb, if_neg (mt (ramMirror_iff ha hb).1 hn)]

/-! ### The PPU register mirrors -/

/-- Settles O47: both decoders pass the address on modulo 8 only. -/
theorem ppuRegistersAreMirrored : Obligations.PpuRegistersAreMirrored := by
  intro s a b v ha ha' hb hb' h
  exact ⟨by rw [s.read_ppu ha ha', s.read_ppu hb hb', h], by rw [s.write_ppu ha ha', s.write_ppu hb hb', h]⟩

/-! ### The controller ports -/

/-- The byte a controller port returns for the low bit of a latch or a shift register. -/
theorem controllerByte_eq (v : Byte) : (v &&& 1) ||| 0x40 = if v.getLsbD 0 = true then 0x41 else 0x40 := by
  revert v; decide

theorem getLsbD_shiftedOut (v : Byte) (n : Nat) :
    (shiftedOut v).getLsbD n = true ↔ v.getLsbD (n + 1) = true ∨ n = 7 := by
  have h : (0x80 : Byte).getLsbD n = true ↔ n = 7 := by
    rw [show (0x80 : Byte) = BitVec.twoPow 8 7 from rfl, BitVec.getLsbD_twoPow]; simp [eq_comm]
  rw [shiftedOut, BitVec.getLsbD_or, BitVec.getLsbD_ushiftRight, Bool.or_eq_true, h, Nat.add_comm 1 n]

/-- After `n` shifts the low bit is bit `n` of the first value, or one of the ones shifted in. -/
theorem getLsbD_zero_iterate_shiftedOut (n : Nat) (v : Byte) :
    (shiftedOut^[n] v).getLsbD 0 = true ↔ v.getLsbD n = true ∨ 8 ≤ n := by
  induction n generalizing v with
  | zero => simp
  | succ n ih =>
    rw [Function.iterate_succ_apply, ih, getLsbD_shiftedOut, or_assoc]
    exact or_congr_right (by omega)

theorem State.read_4016 (s : State) : s.read 0x4016 = s.readController0 := rfl

theorem State.read_4017 (s : State) : s.read 0x4017 = s.readController1 := rfl

/-- The state with the first controller's shift register replaced. -/
def State.withShift0 (s : State) (v : Byte) : State := { s with bus := { s.bus with shift0 := v } }

/-- The state with the second controller's shift register replaced. -/
def State.withShift1 (s : State) (v : Byte) : State := { s with bus := { s.bus with shift1 := v } }

theorem State.readController0_strobe {s : State} (h : s.bus.strobe = true) :
    s.readController0 = (if s.bus.input0.getLsbD 0 = true then 0x41 else 0x40, s) := by
  rw [State.readController0, if_pos h, controllerByte_eq]

theorem State.readController1_strobe {s : State} (h : s.bus.strobe = true) :
    s.readController1 = (if s.bus.input1.getLsbD 0 = true then 0x41 else 0x40, s) := by
  rw [State.readController1, if_pos h, controllerByte_eq]

theorem State.readController0_shift {s : State} (h : s.bus.strobe = false) (v : Byte) :
    (s.withShift0 v).readController0 = (if v.getLsbD 0 = true then 0x41 else 0x40, s.withShift0 (shiftedOut v)) := by
  rw [State.readController0, if_neg (by simp [State.withShift0, h]), ← controllerByte_eq]
  rfl

theorem State.readController1_shift {s : State} (h : s.bus.strobe = false) (v : Byte) :
    (s.withShift1 v).readController1 = (if v.getLsbD 0 = true then 0x41 else 0x40, s.withShift1 (shiftedOut v)) := by
  rw [State.readController1, if_neg (by simp [State.withShift1, h]), ← controllerByte_eq]
  rfl

/-- What the read after `n` others returns, at a port whose every read answers the low bit of the register held by
`put` and shifts that register. -/
theorem read_after_shifts {port : State → Byte × State} {put : Byte → State}
    (h : ∀ v, port (put v) = (if v.getLsbD 0 = true then 0x41 else 0x40, put (shiftedOut v))) (n : Nat) (v : Byte) :
    (port ((fun u => (port u).2)^[n] (put v))).1 = if v.getLsbD n = true ∨ 8 ≤ n then 0x41 else 0x40 := by
  have hshift : Function.Semiconj put shiftedOut (fun u => (port u).2) := fun v => by simp only [h]
  rw [← hshift.iterate_right n v, h]
  simp only [getLsbD_zero_iterate_shiftedOut]

/-- Settles O54: one read per case of the strobe, then the shift register followed through `n` reads. -/
theorem controllersShift : Obligations.ControllersShift := by
  intro s
  simp only [State.read_4016, State.read_4017]
  refine ⟨fun h => ⟨State.readController0_strobe h, State.readController1_strobe h⟩, fun h => ?_⟩
  exact ⟨State.readController0_shift h s.bus.shift0, State.readController1_shift h s.bus.shift1, fun n =>
    ⟨read_after_shifts (State.readController0_shift h) n s.bus.shift0,
      read_after_shifts (State.readController1_shift h) n s.bus.shift1⟩⟩

end Sys2Proof.Machine
end

section
/-! The statement about JMP absolute and indirect (spec 40 R425, spec 43 R560). -/

namespace Sys2Proof.Machine

/-! ### JMP -/

/-- The bits of a word: the low byte's below bit 8, the high byte's from there on. -/
theorem getLsbD_wordOf (l h : Byte) (i : Nat) :
    (wordOf l h).getLsbD i = if i < 8 then l.getLsbD i else h.getLsbD (i - 8) := BitVec.getLsbD_append

/-- The address after a pointer within its page keeps the high byte and increments the low one (R425). -/
theorem nextInPage_eq_wordOf (a : Word) : nextInPage a = wordOf (loByte (a + 1)) (hiByte a) := by
  have hhigh : ∀ i < 16, (0xFF00 : Word).getLsbD i = decide (8 ≤ i) := by decide
  have hlow : ∀ i < 16, (0x00FF : Word).getLsbD i = decide (i < 8) := by decide
  apply BitVec.eq_of_getLsbD_eq
  intro i hi
  rw [nextInPage, BitVec.getLsbD_or, BitVec.getLsbD_and, BitVec.getLsbD_and, hhigh i hi, hlow i hi, getLsbD_wordOf]
  split
  · next h => simp [loByte, h]
  · next h => simp [hiByte, h, show i - 8 < 8 by omega, show 8 + (i - 8) = i by omega, Nat.le_of_not_lt h]

theorem nextInPage_toNat (a : Word) : (nextInPage a).toNat = a.toNat / 256 * 256 + (a.toNat + 1) % 256 := by
  rw [nextInPage_eq_wordOf, wordOf_toNat, loByte_toNat, hiByte_toNat, BitVec.toNat_add]
  simp

theorem jumpOp_eq (base : Nat) (a : Word) (s : State) :
    jumpOp base a s = .next (s.withCpu { s.cpu with pc := a, cycles := s.cpu.cycles + base }) := rfl

@[simp] theorem State.read16Page_cpu (s : State) (ptr : Word) : (s.read16Page ptr).2.cpu = s.cpu := by
  simp only [State.read16Page, State.read_cpu]

/-- Only the target and the cycles are new in the CPU. -/
theorem jumpIndirectOp_eq (base : Nat) (ptr : Word) (s : State) :
    jumpIndirectOp base ptr s = .next ((s.read16Page ptr).2.withCpu
      { s.cpu with pc := (s.read16Page ptr).1, cycles := s.cpu.cycles + base }) := by
  rw [← s.read16Page_cpu ptr]
  rfl

/-- Settles O30: the operand is the target of the absolute form; the indirect form's second read is at the address
after the pointer within its page, and neither read touches the CPU. -/
theorem jumpsFollowThePointer : Obligations.JumpsFollowThePointer := by
  intro a s
  refine ⟨jumpOp_eq 3 a s, nextInPage a, nextInPage_toNat a, ?_⟩
  simp only [← wordOf_eq_ofNat]
  exact jumpIndirectOp_eq 5 a s

end Sys2Proof.Machine
end

section
/-! The statement about PHP (spec 41 R470). -/

namespace Sys2Proof.Machine

/-! ### PHP -/

/-- PHP pushes P with B and U set (R470) and counts its 3 cycles. -/
theorem exec_php (s : State) : exec .php s = .next ((s.push (s.p ||| 0x30)).addCycles 3) := impliedOp_eq 3 pushP s

/-- In the CPU a push moves the stack index only (R467). -/
theorem State.push_cpu (s : State) (v : Byte) : (s.push v).cpu = { s.cpu with sp := s.cpu.sp - 1 } := by
  rw [State.push_eq]

/-- Counting cycles touches nothing outside the CPU. -/
theorem Pushed.addCycles {bs : List Byte} {s t : State} (h : Pushed bs s t) (n : Nat) :
    Pushed bs s (t.addCycles n) :=
  h.congr (t.addCycles_bus n) (t.addCycles_ppu n) (t.addCycles_apu n) (t.addCycles_cart n) (t.addCycles_settings n)

/-- Settles O27: PHP is one push of P with B and U set, and in the CPU a push moves only the stack index, so that the
flags, and P with them, are kept. -/
theorem phpPushesBreakAndUnused : Obligations.PhpPushesBreakAndUnused := by
  intro s
  have hcpu := s.push_cpu (s.p ||| 0x30)
  refine ⟨(s.push (s.p ||| 0x30)).addCycles 3, exec_php s, (s.push_pushed _).addCycles 3, ?_, ?_⟩
  · rw [State.p, State.addCycles_flags, hcpu, State.p]
  · rw [State.addCycles, hcpu]

end Sys2Proof.Machine
end

section
/-! The statements about ADC, SBC and the compares (spec 42 R500, R501, R510, R511, R515-R517). -/

namespace Sys2Proof.Machine

/-! ### The read forms' meanings -/

/-- The instruction of a read form reads the form's operand and then does `use` with the byte. -/
def ReadForm.Does (use : Byte → State → State) (f : ReadForm) : Prop :=
  ∀ s, exec f.instr s = readOp f.operand f.cycles f.penalty use s

/-- A form that does `use`, where `use` is `g` on the CPU, answers its result by `g`. -/
theorem ReadForm.Does.exec_eq {f : ReadForm} {use : Byte → State → State} {g : Byte → Cpu → Cpu}
    (h : f.Does use) (s : State) (hu : ∀ m u, use m u = u.withCpu (g m u.cpu))
    (hc : ∀ m c, (g m c).cycles = c.cycles) : exec f.instr s = .next (f.result s g) :=
  (h s).trans (readOp_result hu hc s)

theorem adcForms_do (b : Byte) (a : Word) : ∀ f ∈ adcForms b a, f.Does addA :=
  List.forall_iff_forall_mem.1 ⟨fun _ => rfl, fun _ => rfl, fun _ => rfl, fun _ => rfl, fun _ => rfl, fun _ => rfl,
    fun _ => rfl, fun _ => rfl⟩

theorem sbcForms_do (b : Byte) (a : Word) : ∀ f ∈ sbcForms b a, f.Does subtractA :=
  List.forall_iff_forall_mem.1 ⟨fun _ => rfl, fun _ => rfl, fun _ => rfl, fun _ => rfl, fun _ => rfl, fun _ => rfl,
    fun _ => rfl, fun _ => rfl⟩

theorem cmpForms_do (b : Byte) (a : Word) : ∀ f ∈ cmpForms b a, f.Does compareA :=
  List.forall_iff_forall_mem.1 ⟨fun _ => rfl, fun _ => rfl, fun _ => rfl, fun _ => rfl, fun _ => rfl, fun _ => rfl,
    fun _ => rfl, fun _ => rfl⟩

theorem cpxForms_do (b : Byte) (a : Word) : ∀ f ∈ cpxForms b a, f.Does compareX :=
  List.forall_iff_forall_mem.1 ⟨fun _ => rfl, fun _ => rfl, fun _ => rfl⟩

theorem cpyForms_do (b : Byte) (a : Word) : ∀ f ∈ cpyForms b a, f.Does compareY :=
  List.forall_iff_forall_mem.1 ⟨fun _ => rfl, fun _ => rfl, fun _ => rfl⟩

/-! ### Addition with carry -/

/-- The mask of R500 tests the sign bit. -/
theorem and_0x80_ne_zero (v : Byte) : (v &&& 0x80 != 0) = v.msb := by
  revert v; decide

/-- `AddWithCarry` (R500) under the names `sum` and `r` of its rule. -/
theorem addWithCarry_eq {a m r : Byte} {f : Flags} {sum : Nat}
    (hsum : a.toNat + m.toNat + (if f.c = true then 1 else 0) = sum) (hr : BitVec.ofNat 8 sum = r) :
    addWithCarry a m f =
      (r, { f with c := decide (0xFF < sum), v := (~~~(a ^^^ m) &&& (a ^^^ r)).msb, z := r == 0, n := r.msb }) := by
  subst hsum hr
  simp only [addWithCarry, Flags.setZN_eq, and_0x80_ne_zero, Bool.toNat, Bool.cond_eq_ite]

theorem ofNat_mod_256 (n : Nat) : BitVec.ofNat 8 (n % 256) = BitVec.ofNat 8 n :=
  BitVec.eq_of_toNat_eq (Nat.mod_mod n 256)

/-- The sum with the complemented operand carries exactly when the subtraction does not borrow (R511). -/
theorem carry_not_iff (a m : Byte) (c : Bool) :
    0xFF < a.toNat + (~~~m).toNat + (if c = true then 1 else 0) ↔
      m.toNat + (if c = true then 0 else 1) ≤ a.toNat := by
  split <;> bv_omega

/-- The sum with the complemented operand is the difference less the borrow (R511). -/
theorem ofNat_add_not (a m : Byte) (c : Bool) :
    BitVec.ofNat 8 (a.toNat + (~~~m).toNat + (if c = true then 1 else 0)) =
      a - m - (if c = true then 0 else 1) := by
  split <;> bv_omega

/-- Settles O12: ADC is `AddWithCarry` of the operand, SBC of its complement, whose sum is the difference less the
borrow. -/
theorem adcAndSbcAreBinary : Obligations.AdcAndSbcAreBinary := by
  intro b a s
  constructor
  · refine fun f hf => (adcForms_do b a f hf).exec_eq s (fun m u => ?_) fun _ _ => rfl
    rw [addA, addWithCarry_eq rfl (ofNat_mod_256 _).symm]
    rfl
  · refine fun f hf => (sbcForms_do b a f hf).exec_eq s (fun m u => ?_) fun _ _ => rfl
    rw [subtractA, addA, addWithCarry_eq rfl (ofNat_add_not ..)]
    simp only [carry_not_iff]
    rfl

/-! ### Comparison -/

/-- `Compare` (R501): the difference is zero exactly when the two are equal. -/
theorem compareFlags_eq (reg m : Byte) (f : Flags) :
    compareFlags reg m f = { f with c := decide (m.toNat ≤ reg.toNat), z := reg == m, n := (reg - m).msb } := by
  have hz : (reg - m == 0) = (reg == m) := by rw [Bool.eq_iff_iff, beq_iff_eq, beq_iff_eq, sub_eq_zero]
  rw [compareFlags, Flags.setZN_eq, hz]

/-- Settles O15: each compare puts the flags of `Compare` on its register and touches nothing else. -/
theorem comparesSetFlags : Obligations.ComparesSetFlags := by
  intro b a s
  exact ⟨
    fun f hf => (cmpForms_do b a f hf).exec_eq s (fun _ u => congrArg u.setFlags (compareFlags_eq ..)) fun _ _ => rfl,
    fun f hf => (cpxForms_do b a f hf).exec_eq s (fun _ u => congrArg u.setFlags (compareFlags_eq ..)) fun _ _ => rfl,
    fun f hf => (cpyForms_do b a f hf).exec_eq s (fun _ u => congrArg u.setFlags (compareFlags_eq ..)) fun _ _ => rfl⟩

end Sys2Proof.Machine
end

section
/-! The statements about the PPU's CTRL, SCROLL and ADDR writes (spec 61 R782, R790, R793, R796). -/

namespace Sys2Proof.Machine

/-! ### The fields of `t` -/

/-- A field that the mask leaves out and `d` fills. -/
theorem extractLsb'_masked {m : Loopy} {a n : Nat} (hm : m.extractLsb' a n = 0#n) (t d : Loopy) :
    (t &&& m ||| d).extractLsb' a n = d.extractLsb' a n := by
  rw [BitVec.extractLsb'_or, BitVec.extractLsb'_and, hm, BitVec.and_zero, BitVec.zero_or]

/-- A field that the mask keeps whole and `d` does not touch. -/
theorem extractLsb'_unmasked {m d : Loopy} {a n : Nat} (hm : m.extractLsb' a n = BitVec.allOnes n)
    (hd : d.extractLsb' a n = 0#n) (t : Loopy) : (t &&& m ||| d).extractLsb' a n = t.extractLsb' a n := by
  rw [BitVec.extractLsb'_or, BitVec.extractLsb'_and, hm, hd, BitVec.and_allOnes, BitVec.or_zero]

/-- The low two bits of a byte put at bits 11:10 fill that field alone (R782). -/
theorem nametableBits_fields (v : Byte) :
    let d : Loopy := (v &&& 0x03).setWidth 15 <<< 10
    d.extractLsb' 10 2 = v.extractLsb' 0 2 ∧ d.extractLsb' 0 10 = 0 ∧ d.extractLsb' 12 3 = 0 := by
  revert v; decide

/-- The high five bits of a byte put at bits 4:0 fill that field alone (R790, first write). -/
theorem coarseXBits_fields (v : Byte) :
    let d : Loopy := (v >>> 3).setWidth 15
    d.extractLsb' 0 5 = v.extractLsb' 3 5 ∧ d.extractLsb' 5 10 = 0 := by
  revert v; decide

/-- The high five bits of a byte put at bits 9:5 and the low three at bits 14:12 fill those fields alone (R790, second
write). -/
theorem verticalBits_fields (v : Byte) :
    let d : Loopy := (v >>> 3).setWidth 15 <<< 5 ||| (v &&& 7).setWidth 15 <<< 12
    d.extractLsb' 5 5 = v.extractLsb' 3 5 ∧ d.extractLsb' 12 3 = v.extractLsb' 0 3 ∧
      d.extractLsb' 0 5 = 0 ∧ d.extractLsb' 10 2 = 0 := by
  revert v; decide

/-- The low six bits of a byte put at bits 13:8 fill that field alone (R793, first write). -/
theorem addressHighBits_fields (v : Byte) :
    let d : Loopy := (v &&& 0x3F).setWidth 15 <<< 8
    d.extractLsb' 8 6 = v.extractLsb' 0 6 ∧ d.msb = false ∧ d.extractLsb' 0 8 = 0 := by
  revert v; decide

/-- A byte put at bits 7:0 fills that field alone (R793, second write). -/
theorem addressLowBits_fields (v : Byte) :
    let d : Loopy := v.setWidth 15
    d.extractLsb' 0 8 = v ∧ d.extractLsb' 8 7 = 0 := by
  revert v; decide

/-! ### CTRL -/

/-- The NMI of R782, by the sign bits. -/
theorem Ppu.ctrlWriteRaisesNmi_eq (p : Ppu) (v : Byte) :
    p.ctrlWriteRaisesNmi v = (!p.ctrl.msb && v.msb && p.vblank) := by
  rw [Ppu.ctrlWriteRaisesNmi, Ppu.nmiOutput, bit_seven, bit_seven]

theorem State.write_ctrl (s : State) {a : Word} (h : 0x2000 ≤ a.toNat) (h' : a.toNat < 0x4000)
    (hr : a.toNat % 8 = 0) (v : Byte) : s.write a v = s.writeCtrl v := by
  rw [s.write_ppu h h', hr]; rfl

/-- Settles O51: the mask $0C00 makes room for bits 11:10 of `t`, and bit 7 is the sign bit of old and new CTRL. -/
theorem ctrlWriteRaisesNmi : Obligations.CtrlWriteRaisesNmi := by
  intro s a v h h' hr
  obtain ⟨hput, hlow, hhigh⟩ := nametableBits_fields v
  refine ⟨(s.ppu.ctrlWrite v).t, (extractLsb'_masked (by decide) ..).trans hput,
    extractLsb'_unmasked (by decide) hlow _, extractLsb'_unmasked (by decide) hhigh _, ?_⟩
  rw [s.write_ctrl h h' hr, State.writeCtrl, Ppu.ctrlWriteRaisesNmi_eq]
  rfl

/-! ### SCROLL and ADDR -/

theorem State.write_scroll (s : State) {a : Word} (h : 0x2000 ≤ a.toNat) (h' : a.toNat < 0x4000)
    (hr : a.toNat % 8 = 5) (v : Byte) : s.write a v = { s with ppu := s.ppu.scrollWrite v } := by
  rw [s.write_ppu h h', hr]; rfl

theorem State.write_addr (s : State) {a : Word} (h : 0x2000 ≤ a.toNat) (h' : a.toNat < 0x4000)
    (hr : a.toNat % 8 = 6) (v : Byte) : s.write a v = { s with ppu := s.ppu.addrWrite v } := by
  rw [s.write_ppu h h', hr]; rfl

/-- The first write of SCROLL (R790): coarse X and fine X. -/
theorem Ppu.scrollWrite_first (p : Ppu) (x : Byte) (hw : p.w = false) : ∃ t : Loopy,
    t.extractLsb' 0 5 = x.extractLsb' 3 5 ∧ t.extractLsb' 5 10 = p.t.extractLsb' 5 10 ∧
    p.scrollWrite x = { p with t := t, fineX := x.extractLsb' 0 3, w := true } := by
  obtain ⟨hput, hrest⟩ := coarseXBits_fields x
  refine ⟨p.t &&& ~~~0x001F#15 ||| (x >>> 3).setWidth 15, (extractLsb'_masked (by decide) ..).trans hput,
    extractLsb'_unmasked (by decide) hrest _, ?_⟩
  rw [Ppu.scrollWrite, hw, ← BitVec.setWidth_eq_extractLsb' (by decide)]
  rfl

/-- The second write of SCROLL (R790): coarse Y and fine Y. -/
theorem Ppu.scrollWrite_second (p : Ppu) (x : Byte) (hw : p.w = true) : ∃ t : Loopy,
    t.extractLsb' 5 5 = x.extractLsb' 3 5 ∧ t.extractLsb' 12 3 = x.extractLsb' 0 3 ∧
    t.extractLsb' 0 5 = p.t.extractLsb' 0 5 ∧ t.extractLsb' 10 2 = p.t.extractLsb' 10 2 ∧
    p.scrollWrite x = { p with t := t, w := false } := by
  obtain ⟨hcoarse, hfine, hlow, hmid⟩ := verticalBits_fields x
  refine ⟨p.t &&& ~~~0x73E0#15 ||| ((x >>> 3).setWidth 15 <<< 5 ||| (x &&& 7).setWidth 15 <<< 12),
    (extractLsb'_masked (by decide) ..).trans hcoarse, (extractLsb'_masked (by decide) ..).trans hfine,
    extractLsb'_unmasked (by decide) hlow _, extractLsb'_unmasked (by decide) hmid _, ?_⟩
  rw [Ppu.scrollWrite, hw, ← BitVec.or_assoc]
  rfl

/-- The first write of ADDR (R793): the high six bits, and bit 14 cleared. -/
theorem Ppu.addrWrite_first (p : Ppu) (x : Byte) (hw : p.w = false) : ∃ t : Loopy,
    t.extractLsb' 8 6 = x.extractLsb' 0 6 ∧ t.msb = false ∧ t.extractLsb' 0 8 = p.t.extractLsb' 0 8 ∧
    p.addrWrite x = { p with t := t, w := true } := by
  obtain ⟨hput, htop, hlow⟩ := addressHighBits_fields x
  refine ⟨p.t &&& 0x00FF#15 ||| (x &&& 0x3F).setWidth 15 <<< 8, (extractLsb'_masked (by decide) ..).trans hput, ?_,
    extractLsb'_unmasked (by decide) hlow _, ?_⟩
  · have hmask : (0x00FF#15).msb = false := by decide
    rw [BitVec.msb_or, BitVec.msb_and, hmask, htop, Bool.and_false, Bool.or_false]
  · rw [Ppu.addrWrite, hw]
    rfl

/-- The second write of ADDR (R793): the low byte, and `v` takes `t`. -/
theorem Ppu.addrWrite_second (p : Ppu) (x : Byte) (hw : p.w = true) : ∃ t : Loopy,
    t.extractLsb' 0 8 = x ∧ t.extractLsb' 8 7 = p.t.extractLsb' 8 7 ∧
    p.addrWrite x = { p with t := t, v := t, w := false } := by
  obtain ⟨hput, hrest⟩ := addressLowBits_fields x
  refine ⟨p.t &&& 0x7F00#15 ||| x.setWidth 15, (extractLsb'_masked (by decide) ..).trans hput,
    extractLsb'_unmasked (by decide) hrest _, ?_⟩
  rw [Ppu.addrWrite, hw]
  rfl

/-- Settles O52: each write is the PPU's own, one case per register and toggle. -/
theorem scrollAndAddrShareTheToggle : Obligations.ScrollAndAddrShareTheToggle := by
  intro s a x h h'
  refine ⟨fun hr hw => ?_, fun hr hw => ?_, fun hr hw => ?_, fun hr hw => ?_⟩
  · obtain ⟨t, hx, hrest, e⟩ := s.ppu.scrollWrite_first x hw
    exact ⟨t, hx, hrest, by rw [s.write_scroll h h' hr, e]⟩
  · obtain ⟨t, hcoarse, hfine, hx, hnt, e⟩ := s.ppu.scrollWrite_second x hw
    exact ⟨t, hcoarse, hfine, hx, hnt, by rw [s.write_scroll h h' hr, e]⟩
  · obtain ⟨t, hhigh, htop, hlow, e⟩ := s.ppu.addrWrite_first x hw
    exact ⟨t, hhigh, htop, hlow, by rw [s.write_addr h h' hr, e]⟩
  · obtain ⟨t, hlow, hrest, e⟩ := s.ppu.addrWrite_second x hw
    exact ⟨t, hlow, hrest, by rw [s.write_addr h h' hr, e]⟩

end Sys2Proof.Machine
end

section
/-! The statement about VBlank (spec 61 R860, R861). -/

namespace Sys2Proof.Machine

/-! ### The fetches of a dot leave the VBlank flag alone -/

theorem Video.backgroundFetch_vblank (b : Video) (k : Nat) : (b.backgroundFetch k).ppu.vblank = b.ppu.vblank := by
  unfold Video.backgroundFetch
  split <;> rfl

theorem Video.backgroundDot_vblank (b : Video) : b.backgroundDot.ppu.vblank = b.ppu.vblank := by
  unfold Video.backgroundDot
  extract_lets dot b1 b2
  have h1 : b1.ppu.vblank = b.ppu.vblank := by
    show (if _ then _ else _ : Video).ppu.vblank = _
    split
    · exact Video.backgroundFetch_vblank _ _
    · rfl
  split <;> exact h1

theorem Video.spriteFetch_vblank (b : Video) (i j : Nat) : (b.spriteFetch i j).ppu.vblank = b.ppu.vblank := by
  unfold Video.spriteFetch
  split <;> rfl

theorem Video.spriteDot_vblank (b : Video) : b.spriteDot.ppu.vblank = b.ppu.vblank := by
  unfold Video.spriteDot
  extract_lets dot src b1
  have h1 : b1.ppu.vblank = b.ppu.vblank := by
    show (if _ then _ else _ : Video).ppu.vblank = _
    split
    · rfl
    · split <;> rfl
  split
  · exact (b1.spriteFetch_vblank _ _).trans h1
  · exact h1

theorem Video.renderStep_vblank (b : Video) : b.renderStep.ppu.vblank = b.ppu.vblank := by
  unfold Video.renderStep
  split
  · exact (Video.spriteDot_vblank _).trans b.backgroundDot_vblank
  · rfl

theorem Ppu.pixelStep_vblank (p : Ppu) : p.pixelStep.vblank = p.vblank := by
  unfold Ppu.pixelStep
  split <;> rfl

/-! ### The flags of a dot -/

/-- The PPU when a dot reaches its status flags: the pixel is composed, the fetches are done. -/
def Video.rendered (b : Video) : Ppu := { b with ppu := b.ppu.pixelStep }.renderStep.ppu

theorem Video.rendered_vblank (b : Video) : b.rendered.vblank = b.ppu.vblank :=
  (Video.renderStep_vblank _).trans b.ppu.pixelStep_vblank

theorem Video.rendered_place (b : Video) : PpuPlace b.ppu b.rendered :=
  (b.pixelStep_dotFrame.trans (Video.renderStep_dotFrame _)).place

theorem Ppu.updateStatus_start {p : Ppu} (h : p.scanline = 241 ∧ p.dot = 1) :
    p.updateStatus = { p with vblank := true } := by
  rw [Ppu.updateStatus, Ppu.startsVBlank, decide_eq_true h]; rfl

theorem Ppu.updateStatus_end {p : Ppu} (h : p.scanline = 261 ∧ p.dot = 1) :
    p.updateStatus = { p with vblank := false, spriteZeroHit := false, overflow := false } := by
  rw [Ppu.updateStatus, Ppu.startsVBlank, if_neg (by simp [h.1]), if_pos h]

theorem Ppu.updateStatus_other {p : Ppu} (h : ¬ (p.scanline = 241 ∧ p.dot = 1))
    (h' : ¬ (p.scanline = 261 ∧ p.dot = 1)) : p.updateStatus = p := by
  rw [Ppu.updateStatus, Ppu.startsVBlank, if_neg (by rwa [decide_eq_true_iff]), if_neg h']

/-- `Advance` leaves the status flags alone (R865). -/
theorem Ppu.advance_flags (p : Ppu) :
    p.advance.vblank = p.vblank ∧ p.advance.spriteZeroHit = p.spriteZeroHit ∧ p.advance.overflow = p.overflow := by
  unfold Ppu.advance
  extract_lets skip dot
  split
  · exact ⟨rfl, rfl, rfl⟩
  · split <;> exact ⟨rfl, rfl, rfl⟩

/-- In the CPU a dot touches the NMI latch only (R860, R705). -/
theorem State.ppuTick_cpu (s : State) :
    s.ppuTick.cpu = { s.cpu with nmiPending := s.cpu.nmiPending || (s.ppu.startsVBlank && s.ppu.ctrl.msb) } := by
  rw [← bit_seven]; rfl

theorem State.ppuTick_ppu (s : State) :
    s.ppuTick.ppu = (Video.rendered ⟨s.ppu, s.cart, s.settings⟩).updateStatus.advance := rfl

/-- Settles O56: the place decides what the status step does, and no other stage of a dot touches the VBlank flag. -/
theorem vBlankStartsAndEnds : Obligations.VBlankStartsAndEnds := by
  intro s
  have hplace := Video.rendered_place ⟨s.ppu, s.cart, s.settings⟩
  have hvblank := Video.rendered_vblank ⟨s.ppu, s.cart, s.settings⟩
  have hcpu := s.ppuTick_cpu
  rw [s.ppuTick_ppu]
  generalize Video.rendered ⟨s.ppu, s.cart, s.settings⟩ = p at hplace hvblank
  obtain ⟨hv, hz, ho⟩ := p.updateStatus.advance_flags
  rw [hv, hz, ho, hcpu, Ppu.startsVBlank, ← hvblank, ← hplace.scanline, ← hplace.dot]
  refine ⟨fun hs hd => ?_, fun hs hd => ?_, fun h => ⟨?_, fun h' => ?_⟩⟩
  · rw [Ppu.updateStatus_start ⟨hs, hd⟩, decide_eq_true ⟨hs, hd⟩, Bool.true_and]
    exact ⟨rfl, rfl⟩
  · rw [Ppu.updateStatus_end ⟨hs, hd⟩]
    exact ⟨rfl, rfl, rfl⟩
  · rw [decide_eq_false h, Bool.false_and, Bool.or_false]
  · rw [Ppu.updateStatus_other h h']

end Sys2Proof.Machine
end

section
/-! The statement about two resets in a row (spec 70 R1002). -/

namespace Sys2Proof.Machine

@[simp] theorem Cart.mapperReset_attached (c : Cart) : c.mapperReset.attached = c.attached := by
  unfold Cart.mapperReset
  split <;> rfl

/-- A reset succeeds exactly when a cartridge is attached (R1003). -/
theorem State.hostReset_eq_next_iff {s t : State} :
    s.hostReset = .next t ↔ s.cart.attached = true ∧ s.resetMachine = t := by
  unfold State.hostReset
  split <;> simp [*]

/-! ### What a reset leaves, by part -/

theorem State.resetMachine_bus (s : State) : s.resetMachine.bus = s.bus.reset :=
  congrArg State.bus s.resetMachine_eq

theorem State.resetMachine_ppu (s : State) : s.resetMachine.ppu =
    { s.ppu.reset with dot := 21, framebuffer := resetPixels s.ppu.backdrop s.ppu.framebuffer } :=
  congrArg State.ppu s.resetMachine_eq

theorem State.resetMachine_framebuffer (s : State) :
    s.resetMachine.ppu.framebuffer = resetPixels s.ppu.backdrop s.ppu.framebuffer := by
  rw [State.resetMachine_ppu]

theorem State.resetMachine_backdrop (s : State) : s.resetMachine.ppu.backdrop = s.ppu.backdrop := by
  simp only [Ppu.backdrop, State.resetMachine_ppu, Ppu.reset]

theorem State.resetMachine_cart (s : State) : s.resetMachine.cart = s.cart.mapperReset :=
  congrArg State.cart s.resetMachine_eq

theorem State.resetMachine_settings (s : State) : s.resetMachine.settings = s.settings := by
  rw [State.resetMachine_eq]

theorem State.resetMachine_cpu (s : State) : s.resetMachine.cpu =
    { State.reset.cpu with pc := wordOf (s.initialised.peek resetVector) (s.initialised.peek (resetVector + 1)) } :=
  congrArg State.cpu s.resetMachine_eq

/-- A CPU address names the same byte after one re-initialisation and after a reset and another one. -/
theorem State.resetMachine_initialised_peek (s : State) (a : Word) :
    s.resetMachine.initialised.peek a = s.initialised.peek a := by
  simp only [State.peek, State.initialised, State.resetMachine_bus, State.resetMachine_cart, Cart.mapperReset_idem]
  rfl

/-- The second reset sets the same constants, reads PC from the same bytes and composes the same pixels again
(R1002). -/
theorem State.resetMachine_idem (s : State) : s.resetMachine.resetMachine = s.resetMachine := by
  have hbus : s.resetMachine.bus.reset = s.bus.reset := by rw [State.resetMachine_bus]; rfl
  have hppu : s.resetMachine.ppu.reset =
      { s.ppu.reset with framebuffer := resetPixels s.ppu.backdrop s.ppu.framebuffer } := by
    simp only [Ppu.reset, State.resetMachine_ppu]
  rw [s.resetMachine.resetMachine_eq]
  simp only [State.resetMachine_initialised_peek, hbus, hppu, State.resetMachine_backdrop,
    State.resetMachine_framebuffer, resetPixels_idem, State.resetMachine_cart, Cart.mapperReset_idem,
    State.resetMachine_settings]
  exact s.resetMachine_eq.symm

/-- Settles O45: a reset keeps the cartridge attached, and the reset of a machine just reset changes nothing. -/
theorem resetIsIdempotent : Obligations.ResetIsIdempotent := by
  intro s t h
  obtain ⟨hattached, rfl⟩ := State.hostReset_eq_next_iff.1 h
  refine ⟨State.hostReset_eq_next_iff.2 ⟨?_, s.resetMachine_idem⟩, ?_, ?_⟩
  · rw [State.resetMachine_cart, Cart.mapperReset_attached, hattached]
  · rw [State.resetMachine_cpu]; rfl
  · rw [State.resetMachine_cpu]; rfl

end Sys2Proof.Machine
end

section
/-! The statements about encoding (spec 30 R300-R304, R310). -/

namespace Sys2Proof

open Machine

/-- Settles O1: an encoding is the opcode of the instruction's row and the operand its form asks for. -/
theorem encodeThenDecode : Obligations.EncodeThenDecode := by
  intro i rest
  cases i
  case brk | jam02 | php | aslAcc | jam12 | clc | nopImp1A | jam22 | plp | rolAcc | jam32 | sec | nopImp3A | rti
      | jam42 | pha | lsrAcc | jam52 | cli | nopImp5A | rts | jam62 | pla | rorAcc | jam72 | sei | nopImp7A
      | dey | txa | xaa8B | jam92 | sha93 | tya | txs | tas9B | shy9C | shx9E | sha9F | tay | tax | lxaAB
      | jamB2 | clv | tsx | lasBB | iny | dex | jamD2 | cld | nopImpDA | inx | nop | jamF2 | sed | nopImpFA =>
    exact decode_none rfl rest
  case oraIndX b | sloIndX b | nopZp04 b | oraZp b | aslZp b | sloZp b | oraImm b | ancImm0B b | bpl b
      | oraIndY b | sloIndY b | nopZpX14 b | oraZpX b | aslZpX b | sloZpX b | andIndX b | rlaIndX b | bitZp b
      | andZp b | rolZp b | rlaZp b | andImm b | ancImm2B b | bmi b | andIndY b | rlaIndY b | nopZpX34 b
      | andZpX b | rolZpX b | rlaZpX b | eorIndX b | sreIndX b | nopZp44 b | eorZp b | lsrZp b | sreZp b
      | eorImm b | alrImm b | bvc b | eorIndY b | sreIndY b | nopZpX54 b | eorZpX b | lsrZpX b | sreZpX b
      | adcIndX b | rraIndX b | nopZp64 b | adcZp b | rorZp b | rraZp b | adcImm b | arrImm b | bvs b
      | adcIndY b | rraIndY b | nopZpX74 b | adcZpX b | rorZpX b | rraZpX b | nopImm80 b | staIndX b
      | nopImm82 b | saxIndX b | styZp b | staZp b | stxZp b | saxZp b | nopImm89 b | bcc b | staIndY b
      | styZpX b | staZpX b | stxZpY b | saxZpY b | ldyImm b | ldaIndX b | ldxImm b | laxIndX b | ldyZp b
      | ldaZp b | ldxZp b | laxZp b | ldaImm b | bcs b | ldaIndY b | laxIndY b | ldyZpX b | ldaZpX b | ldxZpY b
      | laxZpY b | cpyImm b | cmpIndX b | nopImmC2 b | dcpIndX b | cpyZp b | cmpZp b | decZp b | dcpZp b
      | cmpImm b | axsImm b | bne b | cmpIndY b | dcpIndY b | nopZpXD4 b | cmpZpX b | decZpX b | dcpZpX b
      | cpxImm b | sbcIndX b | nopImmE2 b | isbIndX b | cpxZp b | sbcZp b | incZp b | isbZp b | sbcImm b
      | sbcImmEB b | beq b | sbcIndY b | isbIndY b | nopZpXF4 b | sbcZpX b | incZpX b | isbZpX b =>
    exact decode_byte rfl b rest
  case nopAbs0C a | oraAbs a | aslAbs a | sloAbs a | oraAbsY a | sloAbsY a | nopAbsX1C a | oraAbsX a | aslAbsX a
      | sloAbsX a | jsrAbs a | bitAbs a | andAbs a | rolAbs a | rlaAbs a | andAbsY a | rlaAbsY a | nopAbsX3C a
      | andAbsX a | rolAbsX a | rlaAbsX a | jmpAbs a | eorAbs a | lsrAbs a | sreAbs a | eorAbsY a | sreAbsY a
      | nopAbsX5C a | eorAbsX a | lsrAbsX a | sreAbsX a | jmpInd a | adcAbs a | rorAbs a | rraAbs a | adcAbsY a
      | rraAbsY a | nopAbsX7C a | adcAbsX a | rorAbsX a | rraAbsX a | styAbs a | staAbs a | stxAbs a | saxAbs a
      | staAbsY a | staAbsX a | ldyAbs a | ldaAbs a | ldxAbs a | laxAbs a | ldaAbsY a | ldyAbsX a | ldaAbsX a
      | ldxAbsY a | laxAbsY a | cpyAbs a | cmpAbs a | decAbs a | dcpAbs a | cmpAbsY a | dcpAbsY a | nopAbsXDC a
      | cmpAbsX a | decAbsX a | dcpAbsX a | cpxAbs a | sbcAbs a | incAbs a | isbAbs a | sbcAbsY a | isbAbsY a
      | nopAbsXFC a | sbcAbsX a | incAbsX a | isbAbsX a =>
    exact decode_word rfl a rest

/-! ### The forms of the decode table -/

/-- The instruction a form yields from an operand byte or word; one it has no room for is not looked at. -/
def Form.fill : Form → Byte → Word → Instr
  | .none i, _, _ => i
  | .byte f, b, _ => f b
  | .word f, _, a => f a

/-- The bytes of a form's instruction, with the opcode `op` (R300, R302). -/
def Form.bytes (op : Byte) : Form → Byte → Word → List Byte
  | .none _, _, _ => [op]
  | .byte _, b, _ => [op, b]
  | .word _, _, a => [op, loByte a, hiByte a]

/-- Every row of the decode table yields instructions with its own opcode and operand. -/
theorem encode_fill (op b : Byte) (a : Word) :
    encode ((rowOf op).form.fill b a) = (rowOf op).form.bytes op b a := by
  obtain ⟨n⟩ := op
  fin_cases n <;> rfl

/-- Bytes that decode are the bytes of their first byte's row. -/
theorem eq_bytes_of_decode {bytes rest : List Byte} {i : Instr} (h : decode bytes = .instr i rest) :
    ∃ op b a, i = (rowOf op).form.fill b a ∧ bytes = (rowOf op).form.bytes op b a ++ rest := by
  cases bytes with
  | nil => cases h
  | cons op bs =>
    rw [decode_cons] at h
    refine ⟨op, ?_⟩
    cases hf : (rowOf op).form with
    | none j =>
      rw [hf] at h
      obtain ⟨rfl, rfl⟩ := Decoded.instr.inj h
      exact ⟨0, 0, rfl, rfl⟩
    | byte f =>
      rw [hf] at h
      obtain _ | ⟨b, bs⟩ := bs
      · cases h
      · obtain ⟨rfl, rfl⟩ := Decoded.instr.inj h
        exact ⟨b, 0, rfl, rfl⟩
    | word f =>
      rw [hf] at h
      obtain _ | ⟨b, _ | ⟨c, bs⟩⟩ := bs
      · cases h
      · cases h
      · obtain ⟨rfl, rfl⟩ := Decoded.instr.inj h
        exact ⟨0, wordOf b c, rfl, by simp [Form.bytes]⟩

/-- Settles O2: bytes that decode are those of a row, which are the encoding of the row's instruction. -/
theorem decodeThenEncode : Obligations.DecodeThenEncode := by
  intro bytes i rest h
  obtain ⟨op, b, a, rfl, rfl⟩ := eq_bytes_of_decode h
  rw [encode_fill]

/-- Settles O3: each word by its row of the decode table. -/
theorem wordsDecodeAsTheTableSays : Obligations.WordsDecodeAsTheTableSays := by
  unfold Obligations.WordsDecodeAsTheTableSays
  decide

/-! ### The refused opcodes -/

/-- Every instruction stands in the row of its opcode. -/
theorem Instr.eq_fill (i : Instr) : ∃ b a, i = (rowOf i.opcode).form.fill b a := by
  obtain ⟨op, b, a, hi, hbytes⟩ := eq_bytes_of_decode (encodeThenDecode i [])
  rw [List.append_nil, List.append_nil] at hbytes
  have hop : i.opcode = op := by
    rw [Instr.opcode, hbytes]
    cases (rowOf op).form <;> rfl
  exact ⟨b, a, hop ▸ hi⟩

/-- A refused opcode stands in the list of R310. -/
theorem mem_refused_opcodes (op : Byte) : (rowOf op).tier.admitted = false → op ∈ refusedForms.map Prod.snd := by
  revert op; decide

/-- What the list of R310 says of each of its instructions. -/
theorem refusedForms_rows : ∀ p ∈ refusedForms, (rowOf p.2).form = .none p.1 ∧ encode p.1 = [p.2] ∧
    p.1.wellFormed = false :=
  List.forall_iff_forall_mem.1 ⟨⟨rfl, rfl, rfl⟩, ⟨rfl, rfl, rfl⟩, ⟨rfl, rfl, rfl⟩, ⟨rfl, rfl, rfl⟩, ⟨rfl, rfl, rfl⟩,
    ⟨rfl, rfl, rfl⟩, ⟨rfl, rfl, rfl⟩, ⟨rfl, rfl, rfl⟩, ⟨rfl, rfl, rfl⟩, ⟨rfl, rfl, rfl⟩, ⟨rfl, rfl, rfl⟩,
    ⟨rfl, rfl, rfl⟩, ⟨rfl, rfl, rfl⟩, ⟨rfl, rfl, rfl⟩, ⟨rfl, rfl, rfl⟩, ⟨rfl, rfl, rfl⟩, ⟨rfl, rfl, rfl⟩,
    ⟨rfl, rfl, rfl⟩, ⟨rfl, rfl, rfl⟩, ⟨rfl, rfl, rfl⟩⟩

/-- The instructions that are not admitted are those of R310. -/
theorem Instr.wellFormed_eq_false_iff (i : Instr) : i.wellFormed = false ↔ ∃ op, (i, op) ∈ refusedForms := by
  constructor
  · intro h
    obtain ⟨⟨j, op⟩, hp, hop⟩ := List.mem_map.1 (mem_refused_opcodes i.opcode h)
    obtain ⟨b, a, hi⟩ := i.eq_fill
    rw [← hop, (refusedForms_rows _ hp).1] at hi
    exact ⟨op, hi ▸ hp⟩
  · rintro ⟨op, hp⟩
    exact (refusedForms_rows _ hp).2.2

/-- Settles O4: the table is counted, and its refused rows are the list of R310. -/
theorem opcodeCounts : Obligations.OpcodeCounts :=
  ⟨by decide +kernel, by decide +kernel, Instr.wellFormed_eq_false_iff⟩

end Sys2Proof
end

section
/-! What the meaning of an instruction is made of, said once for every instruction (spec 40 R401, R410-R413), and the
statements about completion and refusal that it gives. -/

namespace Sys2Proof.Machine

/-! ### The NMI latch -/

theorem NmiLatchFrame.refl (ea : Word) (s : State) : NmiLatchFrame ea s s := ⟨id, fun _ => rfl⟩

theorem NmiLatchFrame.trans {ea : Word} {s t u : State} (h : NmiLatchFrame ea s t) (k : NmiLatchFrame ea t u) :
    NmiLatchFrame ea s u := ⟨fun e => k.1 (h.1 e), fun hn => (k.2 hn).trans (h.2 hn)⟩

/-- A state whose latch is that of `t`. -/
theorem NmiLatchFrame.congr {ea : Word} {s t u : State} (h : NmiLatchFrame ea s t)
    (e : u.cpu.nmiPending = t.cpu.nmiPending) : NmiLatchFrame ea s u := by
  unfold NmiLatchFrame
  rw [e]
  exact h

/-- Of the PPU's registers only CTRL reaches the CPU (R782). -/
theorem State.writePpuReg_cpu (s : State) {r : Nat} (h : r ≠ 0) (v : Byte) : (s.writePpuReg r v).cpu = s.cpu := by
  unfold State.writePpuReg
  split
  · contradiction
  all_goals rfl

/-- A bus write may raise the latch, by a write of CTRL, and clears it never (R705, R782). -/
theorem State.write_nmiLatch (s : State) (a : Word) (v : Byte) : NmiLatchFrame a s (s.write a v) := by
  rcases writeRange a with h | ⟨h, h'⟩ | h | h | ⟨h, h', h14, h16⟩ | ⟨h, h'⟩ | h
  · rw [s.write_ram h]
    exact .refl a s
  · rw [s.write_ppu h h']
    by_cases hr : a.toNat % 8 = 0
    · rw [hr]
      exact ⟨fun e => by
          simp only [State.writePpuReg, State.writeCtrl, e, Bool.true_or], fun hn => absurd ⟨h, h', hr⟩ hn⟩
    · exact (NmiLatchFrame.refl a s).congr (by rw [s.writePpuReg_cpu hr])
  · rw [s.write_dma h]
    exact .refl a s
  · rw [s.write_strobe h]
    unfold State.writeStrobe
    extract_lets new
    split <;> exact .refl a s
  · rw [s.write_apu h h' h14 h16]
    exact ⟨id, fun _ => rfl⟩
  · rw [s.write_none h h']
    exact .refl a s
  · rw [s.write_cart h]
    exact .refl a s

/-- The accesses of a read-modify-write (R502). -/
theorem State.modify_nmiLatch (s : State) (ea : Word) (r : Byte → Byte) : NmiLatchFrame ea s (s.modify ea r) := by
  have hread : NmiLatchFrame ea s (s.read ea).2 := (NmiLatchFrame.refl ea s).congr (by rw [State.read_cpu])
  unfold State.modify
  extract_lets q
  split
  · exact (hread.trans (State.write_nmiLatch _ _ _)).trans (State.write_nmiLatch _ _ _)
  · exact hread.trans (State.write_nmiLatch _ _ _)

/-! ### The meanings -/

/-- A register or stack step: it counts no cycle and leaves the NMI latch alone. -/
def KeepsClock (use : State → State) : Prop :=
  ∀ s, (use s).cpu.cycles = s.cpu.cycles ∧ (use s).cpu.nmiPending = s.cpu.nmiPending

/-- What an instruction's meaning is made of, with the cycles and the page penalty of its row (R303, R410). -/
inductive Meaning (i : Instr) : Prop
  | read {op : Byte} {bs : List Byte} {o : Operand} {n : Nat} {p : Bool} {use : Byte → State → State}
      (henc : encode i = op :: bs) (hexec : ∀ s, exec i s = readOp o n p use s)
      (hbase : (rowOf op).baseCycles = n) (hpage : (rowOf op).pagePenalty = p) (huse : ∀ v, KeepsClock (use v))
  | store {op : Byte} {bs : List Byte} {m : Mem} {n : Nat} {v : Cpu → Byte}
      (henc : encode i = op :: bs) (hexec : ∀ s, exec i s = storeOp m n v s) (hbase : (rowOf op).baseCycles = n)
  | modify {op : Byte} {bs : List Byte} {m : Mem} {n : Nat} {f : Byte → Flags → Byte × Flags}
      {use : Byte → State → State}
      (henc : encode i = op :: bs) (hexec : ∀ s, exec i s = rmwOp m n f use s) (hbase : (rowOf op).baseCycles = n)
      (huse : ∀ v, KeepsClock (use v))
  | branch {op : Byte} {bs : List Byte} {c : Flags → Bool} {off : Byte}
      (henc : encode i = op :: bs) (hexec : ∀ s, exec i s = branchOp c off s) (hbase : (rowOf op).baseCycles = 2)
      (hmode : (rowOf op).mode = some .relative) (hpage : (rowOf op).pagePenalty = false)
  | implied {op : Byte} {bs : List Byte} {n : Nat} {use : State → State}
      (henc : encode i = op :: bs) (hexec : ∀ s, exec i s = impliedOp n use s) (hbase : (rowOf op).baseCycles = n)
      (huse : KeepsClock use)
  | refused {op : Byte} {bs : List Byte}
      (henc : encode i = op :: bs) (hexec : ∀ s, exec i s = refuse op) (htier : (rowOf op).tier.admitted = false)

theorem push_keepsClock (v : State → Byte) : KeepsClock fun s => s.push (v s) :=
  fun s => by rw [s.push_cpu]; exact ⟨rfl, rfl⟩

theorem pullA_keepsClock : KeepsClock pullA := fun s => by
  simp only [pullA, State.pull_eq]; exact ⟨rfl, rfl⟩

theorem pullP_keepsClock : KeepsClock pullP := fun s => by
  simp only [pullP, State.pull_eq]; exact ⟨rfl, rfl⟩

theorem returnFromSubroutine_keepsClock : KeepsClock returnFromSubroutine := fun s => by
  simp only [returnFromSubroutine, State.pullWord_eq]; exact ⟨rfl, rfl⟩

theorem returnFromHandler_keepsClock : KeepsClock State.returnFromHandler := fun s => by
  rw [s.returnFromHandler_eq]; exact ⟨rfl, rfl⟩

theorem breakEntry_keepsClock : KeepsClock breakEntry := fun s => by
  rw [breakEntry, State.enterHandler_eq _ _ irqVector_le]; exact ⟨rfl, rfl⟩

/-- JSR but for its cycles (R561). -/
theorem call_keepsClock (a : Word) : KeepsClock fun s => (s.pushWord (s.cpu.pc - 1)).setPc a := fun s => by
  simp only [State.pushWord_eq]; exact ⟨rfl, rfl⟩

/-- JMP (ind) but for its cycles (R560). -/
theorem jumpIndirect_keepsClock (a : Word) : KeepsClock fun s => (s.read16Page a).2.setPc (s.read16Page a).1 :=
  fun s => by simp only [State.setPc_cycles, State.setPc_nmiPending, State.read16Page_cpu, and_self]

/-- The meaning of every instruction, one group of cases for each shared operation. -/
theorem meaning (i : Instr) : Meaning i := by
  cases i
  case oraIndX b | nopZp04 b | oraZp b | oraImm b | ancImm0B b | nopAbs0C a | oraAbs a | oraIndY b | nopZpX14 b
      | oraZpX b | oraAbsY a | nopAbsX1C a | oraAbsX a | andIndX b | bitZp b | andZp b | andImm b | ancImm2B b
      | bitAbs a | andAbs a | andIndY b | nopZpX34 b | andZpX b | andAbsY a | nopAbsX3C a | andAbsX a
      | eorIndX b | nopZp44 b | eorZp b | eorImm b | alrImm b | eorAbs a | eorIndY b | nopZpX54 b | eorZpX b
      | eorAbsY a | nopAbsX5C a | eorAbsX a | adcIndX b | nopZp64 b | adcZp b | adcImm b | arrImm b | adcAbs a
      | adcIndY b | nopZpX74 b | adcZpX b | adcAbsY a | nopAbsX7C a | adcAbsX a | nopImm80 b | nopImm82 b
      | nopImm89 b | ldyImm b | ldaIndX b | ldxImm b | laxIndX b | ldyZp b | ldaZp b | ldxZp b | laxZp b
      | ldaImm b | ldyAbs a | ldaAbs a | ldxAbs a | laxAbs a | ldaIndY b | laxIndY b | ldyZpX b | ldaZpX b
      | ldxZpY b | laxZpY b | ldaAbsY a | ldyAbsX a | ldaAbsX a | ldxAbsY a | laxAbsY a | cpyImm b | cmpIndX b
      | nopImmC2 b | cpyZp b | cmpZp b | cmpImm b | axsImm b | cpyAbs a | cmpAbs a | cmpIndY b | nopZpXD4 b
      | cmpZpX b | cmpAbsY a | nopAbsXDC a | cmpAbsX a | cpxImm b | sbcIndX b | nopImmE2 b | cpxZp b | sbcZp b
      | sbcImm b | sbcImmEB b | cpxAbs a | sbcAbs a | sbcIndY b | nopZpXF4 b | sbcZpX b | sbcAbsY a
      | nopAbsXFC a | sbcAbsX a =>
    exact .read rfl (fun _ => rfl) rfl rfl fun _ _ => ⟨rfl, rfl⟩
  case staIndX b | saxIndX b | styZp b | staZp b | stxZp b | saxZp b | styAbs a | staAbs a | stxAbs a | saxAbs a
      | staIndY b | styZpX b | staZpX b | stxZpY b | saxZpY b | staAbsY a | staAbsX a =>
    exact .store rfl (fun _ => rfl) rfl
  case sloIndX b | aslZp b | sloZp b | aslAbs a | sloAbs a | sloIndY b | aslZpX b | sloZpX b | sloAbsY a
      | aslAbsX a | sloAbsX a | rlaIndX b | rolZp b | rlaZp b | rolAbs a | rlaAbs a | rlaIndY b | rolZpX b
      | rlaZpX b | rlaAbsY a | rolAbsX a | rlaAbsX a | sreIndX b | lsrZp b | sreZp b | lsrAbs a | sreAbs a
      | sreIndY b | lsrZpX b | sreZpX b | sreAbsY a | lsrAbsX a | sreAbsX a | rraIndX b | rorZp b | rraZp b
      | rorAbs a | rraAbs a | rraIndY b | rorZpX b | rraZpX b | rraAbsY a | rorAbsX a | rraAbsX a | dcpIndX b
      | decZp b | dcpZp b | decAbs a | dcpAbs a | dcpIndY b | decZpX b | dcpZpX b | dcpAbsY a | decAbsX a
      | dcpAbsX a | isbIndX b | incZp b | isbZp b | incAbs a | isbAbs a | isbIndY b | incZpX b | isbZpX b
      | isbAbsY a | incAbsX a | isbAbsX a =>
    exact .modify rfl (fun _ => rfl) rfl fun _ _ => ⟨rfl, rfl⟩
  case bmi b | bvs b | bcs b | beq b =>
    exact .branch rfl (fun _ => rfl) rfl rfl rfl
  case aslAcc | clc | nopImp1A | rolAcc | sec | nopImp3A | lsrAcc | jmpAbs a | cli | nopImp5A | rorAcc | sei
      | nopImp7A | dey | txa | tya | txs | tay | tax | clv | tsx | iny | dex | cld | nopImpDA | inx | nop | sed
      | nopImpFA =>
    exact .implied rfl (fun _ => rfl) rfl fun _ => ⟨rfl, rfl⟩
  case jam02 | jam12 | jam22 | jam32 | jam42 | jam52 | jam62 | jam72 | xaa8B | jam92 | sha93 | tas9B | shy9C
      | shx9E | sha9F | lxaAB | jamB2 | lasBB | jamD2 | jamF2 =>
    exact .refused rfl (fun _ => rfl) rfl
  case bpl b => exact .branch (c := fun f => !f.n) rfl (fun _ => rfl) rfl rfl rfl
  case bvc b => exact .branch (c := fun f => !f.v) rfl (fun _ => rfl) rfl rfl rfl
  case bcc b => exact .branch (c := fun f => !f.c) rfl (fun _ => rfl) rfl rfl rfl
  case bne b => exact .branch (c := fun f => !f.z) rfl (fun _ => rfl) rfl rfl rfl
  case brk => exact .implied rfl (fun _ => rfl) rfl breakEntry_keepsClock
  case php => exact .implied rfl (fun _ => rfl) rfl (push_keepsClock _)
  case pha => exact .implied rfl (fun _ => rfl) rfl (push_keepsClock _)
  case plp => exact .implied rfl (fun _ => rfl) rfl pullP_keepsClock
  case pla => exact .implied rfl (fun _ => rfl) rfl pullA_keepsClock
  case rti => exact .implied rfl (fun _ => rfl) rfl returnFromHandler_keepsClock
  case rts => exact .implied rfl (fun _ => rfl) rfl returnFromSubroutine_keepsClock
  case jsrAbs a => exact .implied rfl (fun _ => rfl) rfl (call_keepsClock a)
  case jmpInd a => exact .implied rfl (fun _ => rfl) rfl (jumpIndirect_keepsClock a)

/-! ### Completion -/

/-- The cycles of a branch (R412). -/
theorem branchOp_completes (c : Flags → Bool) (off : Byte) (s : State) : ∃ t extra,
    branchOp c off s = .next t ∧ t.cpu.cycles = s.cpu.cycles + 2 + extra ∧ extra ≤ 2 := by
  unfold branchOp
  extract_lets target
  split
  · exact ⟨_, _, rfl, (Nat.add_assoc ..).symm, by split <;> omega⟩
  · exact ⟨_, 0, rfl, rfl, by omega⟩

theorem pageExtra_cases (p c : Bool) : pageExtra p c = 0 ∨ (p = true ∧ pageExtra p c = 1) := by
  revert p c; decide

@[simp] theorem State.rmw_cycles (s : State) (ea : Word) (f : Byte → Flags → Byte × Flags) :
    (s.rmw ea f).2.cpu.cycles = s.cpu.cycles := by
  rw [State.rmw_modify, State.setFlags_cycles, State.modify_cycles]

/-- Settles O7: each shared operation completes with its base cycles, a read with the page extra, a branch with its
own. -/
theorem admittedInstructionsComplete : Obligations.AdmittedInstructionsComplete := by
  intro i s hw
  cases meaning i with
  | @read _ _ o _ p _ henc hexec hbase hpage huse =>
    rw [Instr.row_of_encode henc, hbase, hpage]
    refine ⟨_, pageExtra p (o.load s).crossed, hexec s, ?_, (pageExtra_cases _ _).imp id .inl⟩
    rw [State.addCycles_cycles, (huse _ _).1, Operand.load_cpu, Nat.add_assoc]
  | store henc hexec hbase =>
    rw [Instr.row_of_encode henc, hbase]
    exact ⟨_, 0, (hexec s).trans (storeOp_eq ..), by simp, .inl rfl⟩
  | modify henc hexec hbase huse =>
    rw [Instr.row_of_encode henc, hbase]
    exact ⟨_, 0, (hexec s).trans (rmwOp_eq ..), by simp [(huse _ _).1], .inl rfl⟩
  | branch henc hexec hbase hmode =>
    rw [Instr.row_of_encode henc, hbase, hmode]
    obtain ⟨t, extra, ht, hcycles, hextra⟩ := branchOp_completes _ _ s
    exact ⟨t, extra, (hexec s).trans ht, hcycles, by simp; omega⟩
  | implied henc hexec hbase huse =>
    rw [Instr.row_of_encode henc, hbase]
    exact ⟨_, 0, hexec s, by simp [(huse s).1], .inl rfl⟩
  | refused henc hexec htier =>
    rw [Instr.wellFormed_of_encode henc, htier] at hw
    cases hw

/-! ### Refusal -/

/-- A refused opcode's meaning refuses, under the opcode byte (R310). -/
theorem exec_refusedForms (s : State) : ∀ p ∈ refusedForms, exec p.1 s = .refused (.opcode p.2) :=
  List.forall_iff_forall_mem.1 ⟨rfl, rfl, rfl, rfl, rfl, rfl, rfl, rfl, rfl, rfl, rfl, rfl, rfl, rfl, rfl, rfl, rfl,
    rfl, rfl, rfl⟩

/-- A machine marked as refused has no step (R110). -/
theorem step_of_refused {s : State} (h : s.cpu.refused = true) : step s = .refused .alreadyRefused := by
  rw [step, if_pos h]

/-- Settles O8: the twenty meanings refuse under their byte, and the mark stops the next step. -/
theorem refusedOpcodesStop : Obligations.RefusedOpcodesStop := fun i op s h =>
  ⟨exec_refusedForms s (i, op) h, (refusedForms_rows (i, op) h).2.1, rfl, step_of_refused rfl⟩

end Sys2Proof.Machine
end

section
/-! The statements about what every step keeps (spec 00 R9, R30; 10 R130-R160; 20 R211; 40 R400; 61 R865; 62 R900), about
the fan-out of cycles, and about interrupt requests (60 R705, R711). -/

namespace Sys2Proof.Machine

/-! ### The invariant -/

/-- Settles O39: a step keeps the parts of the invariant, and the APU counts the cycles the CPU counts. -/
theorem stepKeepsInvariant : Obligations.StepKeepsInvariant := by
  intro s t hs h
  have hrun := step_run h
  have hclock := hs.clock
  have hcycles := hrun.cycles
  exact (hrun.parts hs.parts).inv (by rw [hrun.clock]; omega)

/-- Settles O40: the state after reset lists nothing but the twenty pixels of its tick. -/
theorem resetSatisfiesInvariant : Obligations.ResetSatisfiesInvariant where
  ram := ⟨by decide, by decide⟩
  ppu :=
    { scanline := by decide
      dot := by decide
      sprCount := by decide
      slots := by decide +kernel
      ntRam := ⟨by decide, by decide⟩
      palette := ⟨by decide, by decide⟩
      oam := ⟨by decide, by decide⟩
      oam2 := ⟨by decide, by decide⟩
      framebuffer := ⟨by decide +kernel, by decide +kernel⟩ }
  apu :=
    { lfsr := by decide
      fcCycles := by decide
      fcStep := by decide
      sampleAcc := by decide
      samples := by decide
      bitsLeft := by decide
      curAddr := by decide }
  cart := ⟨⟨by decide, by decide⟩, ⟨by decide, by decide⟩, ⟨by decide, by decide⟩⟩
  clock := rfl

/-! ### The clocks -/

/-- Every admitted row has base cycles (R303). -/
theorem baseCycles_pos (op : Byte) : (rowOf op).tier.admitted = true → 0 < (rowOf op).baseCycles := by
  revert op; decide

/-- An instruction that completes counts a cycle at least (R410). -/
theorem exec_cycles_lt {i : Instr} {s t : State} (h : exec i s = .next t) : s.cpu.cycles < t.cpu.cycles := by
  cases hw : i.wellFormed with
  | false =>
    obtain ⟨op, hop⟩ := i.wellFormed_eq_false_iff.1 hw
    rw [exec_refusedForms s _ hop] at h
    cases h
  | true =>
    have hbase := baseCycles_pos i.opcode hw
    obtain ⟨u, extra, hu, hcycles, -⟩ := admittedInstructionsComplete i s hw
    obtain rfl := Host.Outcome.next.inj (h.symm.trans hu)
    rw [hcycles, Instr.row]
    omega

@[simp] theorem State.tick_cycles (n : Nat) (s : State) : (s.tick n).cpu.cycles = s.cpu.cycles := by
  rw [(s.tick_spec n).cpu]

theorem State.finishStep_cycles_le (n : Nat) (s : State) : s.cpu.cycles ≤ (s.finishStep n).cpu.cycles := by
  have htick := s.tick_cycles n
  unfold State.finishStep
  extract_lets t
  split
  · exact htick.symm.le.trans t.oamDma_run.cycles
  · exact htick.symm.le

theorem State.interruptSequence_cycles (s : State) {vector : Word}
    (h : 0x8000 ≤ vector.toNat ∧ 0x8000 ≤ (vector + 1).toNat) :
    (s.interruptSequence vector).cpu.cycles = s.cpu.cycles + 7 := by
  rw [State.interruptSequence, State.tick_cycles, State.addCycles_cycles, State.enterHandler_eq _ _ h]

@[simp] theorem State.acknowledgeIrq_cycles (s : State) : s.acknowledgeIrq.cpu.cycles = s.cpu.cycles := by
  unfold State.acknowledgeIrq State.acknowledgeIrqWith
  extract_lets s1
  split <;> rfl

/-- Every step that has a successor counts a cycle at least. -/
theorem step_cycles_lt {s t : State} (h : step s = .next t) : s.cpu.cycles < t.cpu.cycles := by
  obtain ⟨-, -, ⟨-, e⟩ | ⟨-, -, -, e⟩ | ⟨-, u, hu, e⟩⟩ := step_cases h <;> rw [e]
  · rw [State.interruptSequence_cycles _ nmiVector_le, State.clearNmi_cycles]
    omega
  · rw [State.interruptSequence_cycles _ irqVector_le, State.acknowledgeIrq_cycles]
    omega
  · have hexec := exec_cycles_lt hu
    rw [State.fetchInstr_cycles] at hexec
    exact hexec.trans_le (u.finishStep_cycles_le _)

/-- Settles O42: a step is a run, and counts a cycle at least. -/
theorem stepKeepsClockRatio : Obligations.StepKeepsClockRatio := by
  intro s t hs h
  have hrun := step_run h
  exact ⟨step_cycles_lt h, by rw [hrun.clock]; omega, hrun.position hs.parts⟩

/-! ### Memory that no step writes -/

/-- Settles O41: a step is a run. -/
theorem stepKeepsReadOnlyMemory : Obligations.StepKeepsReadOnlyMemory := by
  intro s t h
  have hrun := step_run h
  obtain ⟨hattached, hprgBanks, hprgRom, hchrBanks, hchrIsRam, hchr, hmirroring, hmapper, hbattery⟩ := hrun.cart
  exact ⟨hprgRom, hchr, hprgBanks, hchrBanks, hchrIsRam, hmapper, hmirroring, hbattery, hattached, hrun.settings⟩

/-! ### The fan-out -/

/-- Under the APU's invariant a cycle draws nothing, and so leaves the bus alone (R912, log 10). -/
theorem State.tickCycle_bus (s : State) (h : s.apu.Inv) : s.tickCycle.bus = s.bus := by
  have h1 := s.ppuTick_spec
  have h2 := s.ppuTick.ppuTick_spec
  have h3 := s.ppuTick.ppuTick.ppuTick_spec
  unfold State.tickCycle
  rw [State.apuTick_bus _ (by rwa [h3.apu, h2.apu, h1.apu]), h3.bus, h2.bus, h1.bus]

theorem State.tick_bus (n : Nat) (s : State) (h : s.apu.Inv) : (s.tick n).bus = s.bus := by
  induction n generalizing s with
  | zero => rfl
  | succ n ih => rw [State.tick_succ, ih _ (s.tickCycle_spec.apuInv h), s.tickCycle_bus h]

/-- Settles O43: what a tick of the machine keeps of each part. -/
theorem tickLeavesTheCpuAlone : Obligations.TickLeavesTheCpuAlone := by
  intro n s h
  have hframe := s.tick_spec n
  have hkept := hframe.kept
  exact ⟨hframe.cpu, hframe.nmi, s.tick_bus n h, hkept.oam, hkept.palette, hkept.ntRam, hkept.ctrl, hkept.mask,
    hkept.oamAddr, hkept.t, hkept.fineX, hkept.w, hkept.readBuffer, hframe.cart.prgRam, hframe.cart.chr,
    hframe.cart.prgRom⟩

/-! ### Requests -/

/-- No meaning clears the NMI latch (R705). -/
theorem exec_keeps_nmi {i : Instr} {s t : State} (h : exec i s = .next t) (hn : s.cpu.nmiPending = true) :
    t.cpu.nmiPending = true := by
  cases meaning i with
  | read henc hexec hbase hpage huse =>
    rw [hexec, readOp_eq] at h
    rw [← Host.Outcome.next.inj h, State.addCycles_nmiPending, (huse _ _).2, Operand.load_cpu, hn]
  | @store _ _ m _ v henc hexec hbase =>
    rw [hexec, storeOp_eq] at h
    rw [← Host.Outcome.next.inj h, State.addCycles_nmiPending]
    exact (s.write_nmiLatch _ _).1 hn
  | modify henc hexec hbase huse =>
    rw [hexec, rmwOp_eq, State.rmw_modify] at h
    rw [← Host.Outcome.next.inj h, State.addCycles_nmiPending, (huse _ _).2, State.setFlags_nmiPending]
    exact (s.modify_nmiLatch _ _).1 hn
  | branch henc hexec hbase hmode hpage =>
    rw [hexec] at h
    unfold branchOp at h
    extract_lets target at h
    split at h <;> rw [← Host.Outcome.next.inj h, State.addCycles_nmiPending]
    · rw [State.setPc_nmiPending, hn]
    · exact hn
  | implied henc hexec hbase huse =>
    rw [hexec, impliedOp_eq] at h
    rw [← Host.Outcome.next.inj h, State.addCycles_nmiPending, (huse _).2, hn]
  | refused henc hexec htier =>
    rw [hexec] at h
    cases h

/-- The clock of the counter raises a request or keeps it (R298). -/
theorem Mmc3.clockIrqCounter_keeps_irq (m : Mmc3) (h : m.irqPending = true) :
    m.clockIrqCounter.irqPending = true := by
  simp only [Mmc3.clockIrqCounter, h, Bool.true_or]

/-- `MapperNotify` acknowledges nothing (R297). -/
theorem Cart.notify_keeps_irq (c : Cart) (filter : Nat) (a : PpuAddr) (t : Nat) (h : c.mmc3.irqPending = true) :
    (c.notify filter a t).mmc3.irqPending = true := by
  unfold Cart.notify
  split
  · show (if _ then _ else _ : Mmc3).irqPending = true
    split
    · exact c.mmc3.clockIrqCounter_keeps_irq h
    · exact h
  · exact h

/-- The video side keeps an MMC3's request. -/
def KeepsMapperIrq (b b' : Video) : Prop := b.cart.mmc3.irqPending = true → b'.cart.mmc3.irqPending = true

theorem Video.read_keepsMapperIrq (b : Video) (a : PpuAddr) : KeepsMapperIrq b (b.read a).2 :=
  b.cart.notify_keeps_irq _ _ _

theorem Video.backgroundFetch_keepsMapperIrq (b : Video) (k : Nat) : KeepsMapperIrq b (b.backgroundFetch k) := by
  unfold Video.backgroundFetch
  split
  · exact b.read_keepsMapperIrq _
  · exact b.read_keepsMapperIrq _
  · exact b.read_keepsMapperIrq _
  · exact b.read_keepsMapperIrq _
  · exact id
  · exact id

theorem Video.backgroundDot_keepsMapperIrq (b : Video) : KeepsMapperIrq b b.backgroundDot := by
  unfold Video.backgroundDot
  extract_lets dot b1 b2
  have h1 : KeepsMapperIrq b b1 := by
    show KeepsMapperIrq b (if _ then _ else _)
    split
    · exact fun h => Video.backgroundFetch_keepsMapperIrq _ _ h
    · exact id
  split
  · exact fun h => b2.read_keepsMapperIrq _ (h1 h)
  · exact h1

theorem Video.spriteFetch_keepsMapperIrq (b : Video) (i j : Nat) : KeepsMapperIrq b (b.spriteFetch i j) := by
  unfold Video.spriteFetch
  split
  · exact b.read_keepsMapperIrq _
  · exact b.read_keepsMapperIrq _
  · exact b.read_keepsMapperIrq _
  · exact b.read_keepsMapperIrq _
  · exact id

theorem Video.spriteDot_keepsMapperIrq (b : Video) : KeepsMapperIrq b b.spriteDot := by
  unfold Video.spriteDot
  extract_lets dot src b1
  have h1 : b1.cart = b.cart := by
    show (if _ then _ else _ : Video).cart = _
    split
    · rfl
    · split <;> rfl
  split
  · exact fun h => b1.spriteFetch_keepsMapperIrq _ _ (h1 ▸ h)
  · exact fun h => h1 ▸ h

theorem Video.tick_keepsMapperIrq (b : Video) : KeepsMapperIrq b b.tick := by
  show KeepsMapperIrq b (Video.renderStep _)
  unfold Video.renderStep
  split
  · exact fun h => Video.spriteDot_keepsMapperIrq _ (Video.backgroundDot_keepsMapperIrq _ h)
  · exact id

/-- A step of the frame counter raises its request or keeps it (R930). -/
theorem Apu.frameStep_keeps_irq (u : Apu) (n : Nat) (h : u.frameIrq = true) : (u.frameStep n).frameIrq = true := by
  unfold Apu.frameStep
  extract_lets u1 u2 u3
  have h1 : u1.frameIrq = true := by
    show (if _ then _ else _ : Apu).frameIrq = true
    split <;> exact h
  have h3 : u3.frameIrq = true := by
    show (if _ then _ else _ : Apu).frameIrq = true
    split <;> exact h
  split
  · split <;> exact h1
  · split
    · rfl
    · exact h3

/-- The part of an APU cycle after the DMC's reader keeps the frame counter's request (R900). -/
theorem Apu.finishCycle_keeps_irq (u : Apu) (h : u.frameIrq = true) : u.finishCycle.frameIrq = true := by
  have h1 : u.evenTimers.frameIrq = true := by unfold Apu.evenTimers; split <;> exact h
  have h2 (v : Apu) (hv : v.frameIrq = true) : v.frameCounterCycle.frameIrq = true := by
    unfold Apu.frameCounterCycle
    split
    · exact v.frameStep_keeps_irq _ hv
    · exact hv
  have h3 (v : Apu) : v.sampleCycle.frameIrq = v.frameIrq := by
    unfold Apu.sampleCycle
    extract_lets acc
    split <;> rfl
  simp only [Apu.finishCycle, h3, h2 _ h1]

theorem State.apuTick_keeps_irq (s : State) (h : s.apu.frameIrq = true) : s.apuTick.apu.frameIrq = true := by
  unfold State.apuTick
  extract_lets u
  split
  · split <;> exact Apu.finishCycle_keeps_irq _ h
  · exact Apu.finishCycle_keeps_irq _ h

theorem State.ppuTick_keeps_irq (s : State) (h : s.cart.mmc3.irqPending = true) :
    s.ppuTick.cart.mmc3.irqPending = true := Video.tick_keepsMapperIrq ⟨s.ppu, s.cart, s.settings⟩ h

/-- The IRQ sources that hold a request in `s` hold it in `t`. -/
structure KeepsRequests (s t : State) : Prop where
  frame : s.apu.frameIrq = true → t.apu.frameIrq = true
  mapper : s.cart.mmc3.irqPending = true → t.cart.mmc3.irqPending = true

theorem State.tickCycle_keepsRequests (s : State) : KeepsRequests s s.tickCycle where
  frame h := State.apuTick_keeps_irq _ h
  mapper h := by
    rw [State.tickCycle, (State.apuTick_spec _).2.2.2.2.2.1]
    exact State.ppuTick_keeps_irq _ (State.ppuTick_keeps_irq _ (s.ppuTick_keeps_irq h))

theorem State.tick_keepsRequests (n : Nat) (s : State) : KeepsRequests s (s.tick n) := by
  induction n generalizing s with
  | zero => exact ⟨id, id⟩
  | succ n ih =>
    have hcycle := s.tickCycle_keepsRequests
    have hrest := ih s.tickCycle
    exact ⟨fun h => hrest.frame (hcycle.frame h), fun h => hrest.mapper (hcycle.mapper h)⟩

/-- Entering a handler touches no source of the IRQ line (R720). -/
theorem State.interruptSequence_keepsRequests (s : State) {vector : Word}
    (h : 0x8000 ≤ vector.toNat ∧ 0x8000 ≤ (vector + 1).toNat) : KeepsRequests s (s.interruptSequence vector) := by
  have htick := ((s.enterHandler s.cpu.flags.pushedByInterrupt vector).addCycles 7).tick_keepsRequests 7
  rw [State.enterHandler_eq _ _ h] at htick
  rw [State.interruptSequence, State.enterHandler_eq _ _ h]
  exact ⟨htick.frame, htick.mapper⟩

@[simp] theorem State.acknowledgeIrq_apu (s : State) : s.acknowledgeIrq.apu = s.apu := by
  unfold State.acknowledgeIrq State.acknowledgeIrqWith
  extract_lets s1
  split <;> rfl

theorem State.acknowledgeIrq_cart_of_not_autoack {s : State} (h : s.settings.irqAutoackMapper = false) :
    s.acknowledgeIrq.cart = s.cart := by
  rw [State.acknowledgeIrq, h]; rfl

/-- Settles O38: no meaning and no tick clears the NMI latch; with an IRQ that is not masked a step enters a handler, which
touches no source of the line, after an acknowledge of the host's latch and, where it is set, the mapper's. -/
theorem interruptRequestsAreKept : Obligations.InterruptRequestsAreKept := by
  refine ⟨fun i s t => exec_keeps_nmi, fun n s => (s.tick_spec n).nmi, fun s t h hline hi => ?_⟩
  obtain ⟨-, -, ⟨-, e⟩ | ⟨-, -, -, e⟩ | ⟨⟨-, -, -, hmasked⟩, -⟩⟩ := step_cases h
  · rw [e]
    have hkept := s.clearNmi.interruptSequence_keepsRequests nmiVector_le
    exact ⟨hkept.frame, fun _ => hkept.mapper⟩
  · rw [e]
    have hkept := s.acknowledgeIrq.interruptSequence_keepsRequests irqVector_le
    refine ⟨fun hf => hkept.frame (by rwa [State.acknowledgeIrq_apu]), fun hset hm => hkept.mapper ?_⟩
    rwa [State.acknowledgeIrq_cart_of_not_autoack hset]
  · simp [hline, hi] at hmasked

/-! ### What stands before everything else -/

/-- Settles O37: the tests of R400 in their order. -/
theorem stepPriority : Obligations.StepPriority := by
  intro s
  refine ⟨step_of_refused, fun hr ha => ?_, fun hr ha hn hi => step_of_ready ⟨hr, ha, hn, .inr hi⟩⟩
  simp [step, hr, ha]

end Sys2Proof.Machine
end

section
/-! The statements about operands and about the instructions that read one and store nothing (spec 40 R411, R420-R428; 41
R450-R453; 42 R510-R518; 44 R601-R605, R613-R617). -/

namespace Sys2Proof.Machine

/-! ### Effective addresses -/

/-- The mask of R411 keeps the high byte. -/
theorem and_0xFF00_eq_wordOf (a : Word) : a &&& 0xFF00 = wordOf 0 (hiByte a) := by
  have hmask : ∀ i < 16, (0xFF00 : Word).getLsbD i = decide (8 ≤ i) := by decide
  apply BitVec.eq_of_getLsbD_eq
  intro i hi
  rw [BitVec.getLsbD_and, hmask i hi, getLsbD_wordOf]
  split
  · next h => simp [h]
  · next h => simp [hiByte, show i - 8 < 8 by omega, show 8 + (i - 8) = i by omega, Nat.le_of_not_lt h]

/-- Two addresses lie in different pages when their numbers of whole pages differ (R411). -/
theorem pageDiffers_iff (a b : Word) : pageDiffers a b = true ↔ a.toNat / 256 ≠ b.toNat / 256 := by
  rw [pageDiffers, bne_iff_ne, and_0xFF00_eq_wordOf, and_0xFF00_eq_wordOf, ne_eq, ne_eq, ← hiByte_toNat,
    ← hiByte_toNat, BitVec.toNat_inj]
  exact not_congr ⟨fun h => by simpa using congrArg hiByte h, congrArg _⟩

theorem indexed_ea_toNat (base : Word) (index : Byte) (s : State) :
    (indexed base index s).ea.toNat = (base.toNat + index.toNat) % 65536 := by
  have := index.isLt
  simp [indexed, BitVec.toNat_add]

theorem indexed_crossed_iff (base : Word) (index : Byte) (s : State) :
    (indexed base index s).crossed = true ↔
      base.toNat / 256 ≠ (base.toNat + index.toNat) % 65536 / 256 := by
  rw [← indexed_ea_toNat base index s]
  exact pageDiffers_iff _ _

/-- A zero-page address names the byte of RAM with its number. -/
theorem State.peek_zp (s : State) {n : Nat} (h : n < 256) : s.peek (BitVec.ofNat 16 n) = s.bus.ram.get n := by
  have hn : (BitVec.ofNat 16 n).toNat = n := by rw [BitVec.toNat_ofNat]; omega
  simp only [State.peek, hn, show n < 0x2000 by omega, if_true, Nat.mod_eq_of_lt (show n < 0x800 by omega)]

/-- The pointer at `zp`, by the numbers of its two bytes in the zero page (R424). -/
theorem State.read16Zp_toNat (s : State) {zp : Byte} {n : Nat} (h : zp.toNat = n) :
    (s.read16Zp zp).1.toNat =
      (s.peek (BitVec.ofNat 16 n)).toNat + 256 * (s.peek (BitVec.ofNat 16 ((n + 1) % 256))).toNat := by
  have hn := zp.isLt
  have hnext : (zp + 1).toNat = (n + 1) % 256 := by rw [BitVec.toNat_add, h]; rfl
  rw [State.read16Zp_eq, wordOf_toNat, s.peek_zp (by omega), s.peek_zp (by omega), h, hnext]
  omega

/-- Settles O9: an address mode adds its index in the zero page or over the whole space, and the pointers of the indirect
modes are read from the zero page. -/
theorem effectiveAddresses : Obligations.EffectiveAddresses := by
  intro s b a x y p px py
  have hindX : (b + s.cpu.x).toNat = p := BitVec.toNat_add _ _
  have hpy : (s.read16Zp b).1.toNat = py := s.read16Zp_toNat rfl
  have hst : (s.read16Zp b).2 = s := by rw [State.read16Zp_eq]
  have hindY : (Mem.indY b).resolve s = indexed (s.read16Zp b).1 s.cpu.y s := by simp only [Mem.resolve, hst]
  refine ⟨zpWord_toNat b, (zpWord_toNat _).trans hindX, (zpWord_toNat _).trans (BitVec.toNat_add _ _), rfl,
    indexed_ea_toNat a s.cpu.x s, indexed_ea_toNat a s.cpu.y s, s.read16Zp_toNat hindX, ?_,
    indexed_crossed_iff a s.cpu.x s, indexed_crossed_iff a s.cpu.y s, ?_, ?_, fun m => ⟨m.resolve_st s, ?_⟩, rfl⟩
  · rw [hindY, indexed_ea_toNat, hpy]
  · rw [hindY, indexed_crossed_iff, hpy]
  · exact List.forall_iff_forall_mem.1 ⟨rfl, rfl, rfl, rfl, rfl⟩
  · simp only [Operand.load, Mem.resolve_st]

/-! ### What the read forms do -/

theorem ldaForms_do (b : Byte) (a : Word) : ∀ f ∈ ldaForms b a, f.Does loadA :=
  List.forall_iff_forall_mem.1 ⟨fun _ => rfl, fun _ => rfl, fun _ => rfl, fun _ => rfl, fun _ => rfl, fun _ => rfl,
    fun _ => rfl, fun _ => rfl⟩

theorem ldxForms_do (b : Byte) (a : Word) : ∀ f ∈ ldxForms b a, f.Does loadX :=
  List.forall_iff_forall_mem.1 ⟨fun _ => rfl, fun _ => rfl, fun _ => rfl, fun _ => rfl, fun _ => rfl⟩

theorem ldyForms_do (b : Byte) (a : Word) : ∀ f ∈ ldyForms b a, f.Does loadY :=
  List.forall_iff_forall_mem.1 ⟨fun _ => rfl, fun _ => rfl, fun _ => rfl, fun _ => rfl, fun _ => rfl⟩

theorem laxForms_do (b : Byte) (a : Word) : ∀ f ∈ laxForms b a, f.Does loadAX :=
  List.forall_iff_forall_mem.1 ⟨fun _ => rfl, fun _ => rfl, fun _ => rfl, fun _ => rfl, fun _ => rfl, fun _ => rfl⟩

theorem andForms_do (b : Byte) (a : Word) : ∀ f ∈ andForms b a, f.Does andA :=
  List.forall_iff_forall_mem.1 ⟨fun _ => rfl, fun _ => rfl, fun _ => rfl, fun _ => rfl, fun _ => rfl, fun _ => rfl,
    fun _ => rfl, fun _ => rfl⟩

theorem oraForms_do (b : Byte) (a : Word) : ∀ f ∈ oraForms b a, f.Does orA :=
  List.forall_iff_forall_mem.1 ⟨fun _ => rfl, fun _ => rfl, fun _ => rfl, fun _ => rfl, fun _ => rfl, fun _ => rfl,
    fun _ => rfl, fun _ => rfl⟩

theorem eorForms_do (b : Byte) (a : Word) : ∀ f ∈ eorForms b a, f.Does eorA :=
  List.forall_iff_forall_mem.1 ⟨fun _ => rfl, fun _ => rfl, fun _ => rfl, fun _ => rfl, fun _ => rfl, fun _ => rfl,
    fun _ => rfl, fun _ => rfl⟩

theorem bitForms_do (b : Byte) (a : Word) : ∀ f ∈ bitForms b a, f.Does bitTest :=
  List.forall_iff_forall_mem.1 ⟨fun _ => rfl, fun _ => rfl⟩

theorem ancForms_do (b : Byte) (a : Word) : ∀ f ∈ ancForms b a, f.Does ancA :=
  List.forall_iff_forall_mem.1 ⟨fun _ => rfl, fun _ => rfl⟩

theorem alrForms_do (b : Byte) (a : Word) : ∀ f ∈ alrForms b a, f.Does alrA :=
  List.forall_iff_forall_mem.1 fun _ => rfl

theorem arrForms_do (b : Byte) (a : Word) : ∀ f ∈ arrForms b a, f.Does arrA :=
  List.forall_iff_forall_mem.1 fun _ => rfl

theorem axsForms_do (b : Byte) (a : Word) : ∀ f ∈ axsForms b a, f.Does axsX :=
  List.forall_iff_forall_mem.1 fun _ => rfl

theorem nopForms_do (b : Byte) (a : Word) : ∀ f ∈ nopForms b a, f.Does discard :=
  List.forall_iff_forall_mem.1 ⟨fun _ => rfl, fun _ => rfl, fun _ => rfl, fun _ => rfl, fun _ => rfl, fun _ => rfl,
    fun _ => rfl, fun _ => rfl, fun _ => rfl, fun _ => rfl, fun _ => rfl, fun _ => rfl, fun _ => rfl, fun _ => rfl,
    fun _ => rfl, fun _ => rfl, fun _ => rfl, fun _ => rfl, fun _ => rfl, fun _ => rfl, fun _ => rfl⟩

theorem sbcRedundantForms_do (b : Byte) (a : Word) : ∀ f ∈ sbcRedundantForms b a, f.Does subtractA :=
  List.forall_iff_forall_mem.1 fun _ => rfl

/-! ### Loads and logic -/

theorem loadA_eq (v : Byte) (s : State) : loadA v s = s.withCpu ({ s.cpu with a := v }.withZN v) := State.setZN_eq _ v

theorem loadX_eq (v : Byte) (s : State) : loadX v s = s.withCpu ({ s.cpu with x := v }.withZN v) := State.setZN_eq _ v

theorem loadY_eq (v : Byte) (s : State) : loadY v s = s.withCpu ({ s.cpu with y := v }.withZN v) := State.setZN_eq _ v

theorem loadAX_eq (v : Byte) (s : State) : loadAX v s = s.withCpu ({ s.cpu with a := v, x := v }.withZN v) :=
  State.setZN_eq _ v

/-- Settles O11: each load form does its load. -/
theorem loadsSetRegisterAndFlags : Obligations.LoadsSetRegisterAndFlags := by
  intro b a s
  exact ⟨fun f hf => (ldaForms_do b a f hf).exec_eq s loadA_eq fun _ _ => rfl,
    fun f hf => (ldxForms_do b a f hf).exec_eq s loadX_eq fun _ _ => rfl,
    fun f hf => (ldyForms_do b a f hf).exec_eq s loadY_eq fun _ _ => rfl,
    fun f hf => (laxForms_do b a f hf).exec_eq s loadAX_eq fun _ _ => rfl⟩

/-- Settles O14: each logic form loads A with the logical result. -/
theorem logicIsBitwise : Obligations.LogicIsBitwise := by
  intro b a s
  exact ⟨
    fun f hf => ⟨s.cpu.a &&& (f.operand.load s).value, fun i => BitVec.getLsbD_and,
      (andForms_do b a f hf).exec_eq s (g := fun m c => Cpu.withZN { c with a := c.a &&& m } (c.a &&& m))
        (fun m u => loadA_eq (u.cpu.a &&& m) u) fun _ _ => rfl⟩,
    fun f hf => ⟨s.cpu.a ||| (f.operand.load s).value, fun i => BitVec.getLsbD_or,
      (oraForms_do b a f hf).exec_eq s (g := fun m c => Cpu.withZN { c with a := c.a ||| m } (c.a ||| m))
        (fun m u => loadA_eq (u.cpu.a ||| m) u) fun _ _ => rfl⟩,
    fun f hf => ⟨s.cpu.a ^^^ (f.operand.load s).value, fun i => BitVec.getLsbD_xor,
      (eorForms_do b a f hf).exec_eq s (g := fun m c => Cpu.withZN { c with a := c.a ^^^ m } (c.a ^^^ m))
        (fun m u => loadA_eq (u.cpu.a ^^^ m) u) fun _ _ => rfl⟩⟩

/-- BIT's flags (R518), N by the sign bit. -/
theorem bitTest_eq (m : Byte) (s : State) : bitTest m s = s.withCpu
    { s.cpu with flags := { s.cpu.flags with z := s.cpu.a &&& m == 0, v := m.getLsbD 6, n := m.msb } } := by
  rw [bitTest, bitTestFlags, bit_seven]; rfl

/-- Settles O16: the BIT forms do the test of R518. -/
theorem bitTestsTheByte : Obligations.BitTestsTheByte := fun b a s f hf =>
  (bitForms_do b a f hf).exec_eq s bitTest_eq fun _ _ => rfl

/-! ### Signed overflow -/

/-- The overflow formula of R500, on the sum of two bytes and a carry. -/
theorem overflow_iff {a m r : Byte} {k : Nat} (hk : k ≤ 1) (hr : BitVec.ofNat 8 (a.toNat + m.toNat + k) = r) :
    let e := a.toInt + m.toInt + k
    ((~~~(a ^^^ m) &&& (a ^^^ r)).msb = true ↔ e < -128 ∨ 127 < e) ∧
    ((~~~(a ^^^ m) &&& (a ^^^ r)).msb = false → r.toInt = e) := by
  have ha := a.isLt
  have hm := m.isLt
  have hrn : r.toNat = (a.toNat + m.toNat + k) % 256 := by rw [← hr, BitVec.toNat_ofNat]
  have hsign (x : Byte) : x.msb = decide (128 ≤ x.toNat) := BitVec.msb_eq_decide x
  have hv : (~~~(a ^^^ m) &&& (a ^^^ r)).msb = (a.msb == m.msb && a.msb != r.msb) := by
    rw [BitVec.msb_and, BitVec.msb_not, BitVec.msb_xor, BitVec.msb_xor]
    cases a.msb <;> cases m.msb <;> cases r.msb <;> rfl
  simp only [hv, BitVec.toInt_eq_msb_cond, hsign, hrn]
  by_cases h1 : 128 ≤ a.toNat <;> by_cases h2 : 128 ≤ m.toNat <;>
    by_cases h3 : 128 ≤ (a.toNat + m.toNat + k) % 256 <;> simp [h1, h2, h3] <;> omega

/-- After `AddWithCarry` V says that the signed sum is no signed byte (R500). -/
theorem addWithCarry_signed (a m : Byte) (f : Flags) :
    let e := a.toInt + m.toInt + (if f.c = true then 1 else 0)
    ((addWithCarry a m f).2.v = true ↔ e < -128 ∨ 127 < e) ∧
    ((addWithCarry a m f).2.v = false → (addWithCarry a m f).1.toInt = e) := by
  rw [addWithCarry_eq rfl rfl]
  have h := overflow_iff (a := a) (m := m) (k := if f.c = true then 1 else 0) (by split <;> omega) rfl
  simpa using h

/-- The complement's signed value (R511). -/
theorem toInt_complement (m : Byte) : (~~~m).toInt = -m.toInt - 1 := by
  revert m; decide

/-- Settles O13: ADC adds the operand, SBC its complement. -/
theorem overflowIsSigned : Obligations.OverflowIsSigned := by
  intro b a s
  constructor
  · intro f hf
    refine ⟨_, adcForms_do b a f hf s, ?_⟩
    have h := addWithCarry_signed s.cpu.a (f.operand.load s).value s.cpu.flags
    rw [← f.operand.load_cpu s] at h ⊢
    exact h
  · intro f hf
    refine ⟨_, sbcForms_do b a f hf s, ?_⟩
    have h := addWithCarry_signed s.cpu.a (~~~(f.operand.load s).value) s.cpu.flags
    have he : s.cpu.a.toInt + (~~~(f.operand.load s).value).toInt + (if s.cpu.flags.c = true then 1 else 0) =
        s.cpu.a.toInt - (f.operand.load s).value.toInt - (if s.cpu.flags.c = true then 0 else 1) := by
      rw [toInt_complement]; split <;> omega
    rw [he, ← f.operand.load_cpu s] at h
    rw [← f.operand.load_cpu s]
    exact h

/-! ### The undocumented immediates -/

theorem ancA_eq (m : Byte) (s : State) : ancA m s = s.withCpu
    { { s.cpu with a := s.cpu.a &&& m }.withZN (s.cpu.a &&& m) with
      flags := { ({ s.cpu with a := s.cpu.a &&& m }.withZN (s.cpu.a &&& m)).flags with c := (s.cpu.a &&& m).msb } } := by
  rw [ancA, ancResult, bit_seven, Flags.setZN_eq]; rfl

theorem alrA_eq (m : Byte) (s : State) : alrA m s = s.withCpu
    { s.cpu with
      a := (s.cpu.a &&& m) >>> 1
      flags := { s.cpu.flags with
        c := (s.cpu.a &&& m).getLsbD 0, z := (s.cpu.a &&& m) >>> 1 == 0, n := false } } := by
  have hn : ((s.cpu.a &&& m) >>> 1).msb = false := by rw [BitVec.msb_ushiftRight]; rfl
  rw [alrA, alrResult, Flags.setZN_eq, hn]; rfl

/-- ARR's result: a rotate right of the conjunction through C (R615). -/
def arrByte (a m : Byte) (c : Bool) : Byte := (a &&& m) >>> 1 ||| bitByte c <<< 7

theorem arrByte_bits (a m : Byte) (c : Bool) : (arrByte a m c).msb = c ∧
    ∀ i < 7, (arrByte a m c).getLsbD i = (a &&& m).getLsbD (i + 1) := by
  have hc : (bitByte c <<< 7).msb = c ∧ ∀ i < 7, (bitByte c <<< 7).getLsbD i = false := by revert c; decide
  refine ⟨?_, fun i hi => ?_⟩
  · rw [arrByte, BitVec.msb_or, BitVec.msb_ushiftRight, hc.1]; rfl
  · rw [arrByte, BitVec.getLsbD_or, BitVec.getLsbD_ushiftRight, hc.2 i hi, Bool.or_false, Nat.add_comm]

theorem arrA_eq (m : Byte) (s : State) : arrA m s = s.withCpu
    { s.cpu with
      a := arrByte s.cpu.a m s.cpu.flags.c
      flags := { s.cpu.flags with
        c := (arrByte s.cpu.a m s.cpu.flags.c).getLsbD 6
        v := (arrByte s.cpu.a m s.cpu.flags.c).getLsbD 6 != (arrByte s.cpu.a m s.cpu.flags.c).getLsbD 5
        z := arrByte s.cpu.a m s.cpu.flags.c == 0
        n := (arrByte s.cpu.a m s.cpu.flags.c).msb } } := by
  rw [arrA, arrResult, Flags.setZN_eq]; rfl

theorem axsX_eq (m : Byte) (s : State) : axsX m s = s.withCpu
    { s.cpu with
      x := (s.cpu.a &&& s.cpu.x) - m
      flags := { s.cpu.flags with
        c := decide (m.toNat ≤ (s.cpu.a &&& s.cpu.x).toNat)
        z := (s.cpu.a &&& s.cpu.x) - m == 0
        n := ((s.cpu.a &&& s.cpu.x) - m).msb } } := by
  rw [axsX, axsResult, Flags.setZN_eq]; rfl

/-- Settles O17: each form does its rule's step; the redundant SBC is the documented immediate one. -/
theorem immediateCombinations : Obligations.ImmediateCombinations := by
  intro b a s
  refine ⟨fun f hf => (ancForms_do b a f hf).exec_eq s ancA_eq fun _ _ => rfl,
    fun f hf => (alrForms_do b a f hf).exec_eq s alrA_eq fun _ _ => rfl,
    fun f hf => ⟨arrByte s.cpu.a (f.operand.load s).value s.cpu.flags.c, arrByte_bits _ _ _, ?_⟩,
    fun f hf => (axsForms_do b a f hf).exec_eq s axsX_eq fun _ _ => rfl,
    List.forall_iff_forall_mem.1 ⟨_, rfl, rfl⟩⟩
  exact (arrForms_do b a f hf).exec_eq s (g := fun m c =>
    { c with
      a := arrByte c.a m c.flags.c
      flags := { c.flags with
        c := (arrByte c.a m c.flags.c).getLsbD 6
        v := (arrByte c.a m c.flags.c).getLsbD 6 != (arrByte c.a m c.flags.c).getLsbD 5
        z := arrByte c.a m c.flags.c == 0
        n := (arrByte c.a m c.flags.c).msb } }) arrA_eq fun _ _ => rfl

/-- Settles O18: the implied NOPs have no effect, the others discard what they read. -/
theorem nopsOnlyRead : Obligations.NopsOnlyRead := by
  intro b a s
  exact ⟨List.forall_iff_forall_mem.1 ⟨rfl, rfl, rfl, rfl, rfl, rfl, rfl⟩,
    fun f hf => (nopForms_do b a f hf).exec_eq s (fun _ _ => rfl) fun _ _ => rfl⟩

/-! ### The frame of the read forms -/

/-- The registers that an instruction which reads an operand leaves alone. -/
structure ReadKept (c d : Cpu) : Prop where
  sp : d.sp = c.sp
  pc : d.pc = c.pc
  nmiPending : d.nmiPending = c.nmiPending
  hostIrq : d.hostIrq = c.hostIrq
  refused : d.refused = c.refused
  flagI : d.flags.i = c.flags.i
  flagD : d.flags.d = c.flags.d

/-- A step with an operand byte that touches the CPU alone, and there only registers and flags a result goes to. -/
def UsesOnly (use : Byte → State → State) : Prop :=
  ∀ v s, use v s = s.withCpu (use v s).cpu ∧ ReadKept s.cpu (use v s).cpu

/-- What every read form does. -/
theorem readForms_do (b : Byte) (a : Word) : ∀ f ∈ readForms b a, ∃ use, f.Does use ∧ UsesOnly use := by
  intro f hf
  simp only [readForms, List.mem_append] at hf
  obtain ((((((((((((((((((h | h) | h) | h) | h) | h) | h) | h) | h) | h) | h) | h) | h) | h) | h) | h) | h) | h) | h)
    := hf
  · exact ⟨_, ldaForms_do b a f h, fun _ _ => ⟨rfl, rfl, rfl, rfl, rfl, rfl, rfl, rfl⟩⟩
  · exact ⟨_, ldxForms_do b a f h, fun _ _ => ⟨rfl, rfl, rfl, rfl, rfl, rfl, rfl, rfl⟩⟩
  · exact ⟨_, ldyForms_do b a f h, fun _ _ => ⟨rfl, rfl, rfl, rfl, rfl, rfl, rfl, rfl⟩⟩
  · exact ⟨_, laxForms_do b a f h, fun _ _ => ⟨rfl, rfl, rfl, rfl, rfl, rfl, rfl, rfl⟩⟩
  · exact ⟨_, adcForms_do b a f h, fun _ _ => ⟨rfl, rfl, rfl, rfl, rfl, rfl, rfl, rfl⟩⟩
  · exact ⟨_, sbcForms_do b a f h, fun _ _ => ⟨rfl, rfl, rfl, rfl, rfl, rfl, rfl, rfl⟩⟩
  · exact ⟨_, andForms_do b a f h, fun _ _ => ⟨rfl, rfl, rfl, rfl, rfl, rfl, rfl, rfl⟩⟩
  · exact ⟨_, oraForms_do b a f h, fun _ _ => ⟨rfl, rfl, rfl, rfl, rfl, rfl, rfl, rfl⟩⟩
  · exact ⟨_, eorForms_do b a f h, fun _ _ => ⟨rfl, rfl, rfl, rfl, rfl, rfl, rfl, rfl⟩⟩
  · exact ⟨_, cmpForms_do b a f h, fun _ _ => ⟨rfl, rfl, rfl, rfl, rfl, rfl, rfl, rfl⟩⟩
  · exact ⟨_, cpxForms_do b a f h, fun _ _ => ⟨rfl, rfl, rfl, rfl, rfl, rfl, rfl, rfl⟩⟩
  · exact ⟨_, cpyForms_do b a f h, fun _ _ => ⟨rfl, rfl, rfl, rfl, rfl, rfl, rfl, rfl⟩⟩
  · exact ⟨_, bitForms_do b a f h, fun _ _ => ⟨rfl, rfl, rfl, rfl, rfl, rfl, rfl, rfl⟩⟩
  · exact ⟨_, ancForms_do b a f h, fun _ _ => ⟨rfl, rfl, rfl, rfl, rfl, rfl, rfl, rfl⟩⟩
  · exact ⟨_, alrForms_do b a f h, fun _ _ => ⟨rfl, rfl, rfl, rfl, rfl, rfl, rfl, rfl⟩⟩
  · exact ⟨_, arrForms_do b a f h, fun _ _ => ⟨rfl, rfl, rfl, rfl, rfl, rfl, rfl, rfl⟩⟩
  · exact ⟨_, axsForms_do b a f h, fun _ _ => ⟨rfl, rfl, rfl, rfl, rfl, rfl, rfl, rfl⟩⟩
  · exact ⟨_, nopForms_do b a f h, fun _ _ => ⟨rfl, rfl, rfl, rfl, rfl, rfl, rfl, rfl⟩⟩
  · exact ⟨_, sbcRedundantForms_do b a f h, fun _ _ => ⟨rfl, rfl, rfl, rfl, rfl, rfl, rfl, rfl⟩⟩

@[simp] theorem State.withCpu_cpu (s : State) (c : Cpu) : (s.withCpu c).cpu = c := rfl
@[simp] theorem State.withCpu_bus (s : State) (c : Cpu) : (s.withCpu c).bus = s.bus := rfl
@[simp] theorem State.withCpu_ppu (s : State) (c : Cpu) : (s.withCpu c).ppu = s.ppu := rfl
@[simp] theorem State.withCpu_apu (s : State) (c : Cpu) : (s.withCpu c).apu = s.apu := rfl
@[simp] theorem State.withCpu_cart (s : State) (c : Cpu) : (s.withCpu c).cart = s.cart := rfl
@[simp] theorem State.withCpu_settings (s : State) (c : Cpu) : (s.withCpu c).settings = s.settings := rfl

theorem SameDevices.withCpu (s : State) (c : Cpu) : SameDevices s (s.withCpu c) := ⟨rfl, rfl, rfl, rfl, rfl⟩

/-- Reads change no memory. -/
theorem ReadFrame.sameMemories {s t : State} (h : ReadFrame s t) (c : Cpu) : SameMemories s (t.withCpu c) where
  ram := h.ram
  ntRam := by rw [State.withCpu_ppu, h.ppu]
  palette := by rw [State.withCpu_ppu, h.ppu]
  oam := by rw [State.withCpu_ppu, h.ppu]
  oam2 := by rw [State.withCpu_ppu, h.ppu]
  framebuffer := by rw [State.withCpu_ppu, h.ppu]
  prgRom := h.prgRom
  prgRam := h.prgRam
  chr := by rw [State.withCpu_cart, h.cart]
  plain _ ha := h.peek ((plainAddress_iff _).1 ha)

theorem ReadFrame.sameBusRegisters {s t : State} (h : ReadFrame s t) (c : Cpu) :
    SameBusRegisters s (t.withCpu c) where
  input0 := by rw [State.withCpu_bus, h.bus]
  input1 := by rw [State.withCpu_bus, h.bus]
  strobe := by rw [State.withCpu_bus, h.bus]
  openBus := by rw [State.withCpu_bus, h.bus]
  dmaPage := by rw [State.withCpu_bus, h.bus]
  dmaPending := by rw [State.withCpu_bus, h.bus]

/-- The operand's read from plain memory changes nothing. -/
theorem Operand.load_plain_st {m : Mem} {s : State} (h : plainAddress (m.resolve s).ea = true) :
    ((Operand.mem m).load s).st = s := by
  simp only [Operand.load, Mem.resolve_st, s.read_plain ((plainAddress_iff _).1 h)]

/-- Settles O10: a read form does its bus reads and then touches the CPU alone. -/
theorem readingInstructionsFrame : Obligations.ReadingInstructionsFrame := by
  intro b a s t f hf h
  obtain ⟨use, hdoes, huse⟩ := readForms_do b a f hf
  obtain ⟨hst, hkept⟩ := huse (f.operand.load s).value (f.operand.load s).st
  have hframe := f.operand.load_frame s
  have ht : t = (f.operand.load s).st.withCpu t.cpu := by
    rw [← Host.Outcome.next.inj ((hdoes s).symm.trans h), hst]; rfl
  have hcpu : ReadKept s.cpu t.cpu := by
    rw [Operand.load_cpu] at hkept
    rw [← Host.Outcome.next.inj ((hdoes s).symm.trans h)]
    exact ⟨hkept.sp, hkept.pc, hkept.nmiPending, hkept.hostIrq, hkept.refused, hkept.flagI, hkept.flagD⟩
  have hsame (e : (f.operand.load s).st = s) : SameDevices s t := by
    rw [ht, e]; exact .withCpu s _
  refine ⟨ht ▸ hframe.sameMemories _, ht ▸ hframe.sameBusRegisters _, ?_, fun m hm hp => hsame ?_,
    fun v hv => hsame ?_, hcpu.sp, hcpu.pc, hcpu.nmiPending, hcpu.hostIrq, hcpu.refused, hcpu.flagI, hcpu.flagD⟩
  · rw [ht]
    exact ⟨rfl, hframe.bus, hframe.ppu, hframe.apu, hframe.cart, hframe.settings⟩
  · rw [hm]; exact Operand.load_plain_st hp
  · rw [hv]; rfl

end Sys2Proof.Machine
end

section
/-! The statements about the instructions that store to memory (spec 20 R201; 41 R454-R456; 42 R502, R503, R519-R528; 44
R600, R606-R612). -/

namespace Sys2Proof.Machine

/-! ### What the store forms do -/

/-- The instruction of a store form stores `v` of the registers at the form's address. -/
def MemForm.Stores (v : Cpu → Byte) (f : MemForm) : Prop := ∀ s, exec f.instr s = storeOp f.mem f.cycles v s

theorem MemForm.Stores.exec_eq {f : MemForm} {v : Cpu → Byte} (h : f.Stores v) (s : State) :
    exec f.instr s = .next (f.stored s (v s.cpu)) := (h s).trans (storeOp_stored s)

theorem staForms_store (b : Byte) (a : Word) : ∀ f ∈ staForms b a, f.Stores Cpu.a :=
  List.forall_iff_forall_mem.1 ⟨fun _ => rfl, fun _ => rfl, fun _ => rfl, fun _ => rfl, fun _ => rfl, fun _ => rfl,
    fun _ => rfl⟩

theorem stxForms_store (b : Byte) (a : Word) : ∀ f ∈ stxForms b a, f.Stores Cpu.x :=
  List.forall_iff_forall_mem.1 ⟨fun _ => rfl, fun _ => rfl, fun _ => rfl⟩

theorem styForms_store (b : Byte) (a : Word) : ∀ f ∈ styForms b a, f.Stores Cpu.y :=
  List.forall_iff_forall_mem.1 ⟨fun _ => rfl, fun _ => rfl, fun _ => rfl⟩

theorem saxForms_store (b : Byte) (a : Word) : ∀ f ∈ saxForms b a, f.Stores Cpu.aAndX :=
  List.forall_iff_forall_mem.1 ⟨fun _ => rfl, fun _ => rfl, fun _ => rfl, fun _ => rfl⟩

/-- Settles O19: each store form makes its one write. -/
theorem storesWriteOneByte : Obligations.StoresWriteOneByte := by
  intro b a s
  exact ⟨fun f hf => (staForms_store b a f hf).exec_eq s, fun f hf => (stxForms_store b a f hf).exec_eq s,
    fun f hf => (styForms_store b a f hf).exec_eq s, fun f hf => (saxForms_store b a f hf).exec_eq s⟩

/-! ### What the read-modify-write forms do -/

/-- The instruction of a form modifies memory by `fn` at the form's address and then does `use` with the result. -/
def MemForm.Modifies (fn : Byte → Flags → Byte × Flags) (use : Byte → State → State) (f : MemForm) : Prop :=
  ∀ s, exec f.instr s = rmwOp f.mem f.cycles fn use s

/-- A form that modifies, where `use` is `g` on the CPU, answers its result by `g`. -/
theorem MemForm.Modifies.exec_eq {f : MemForm} {fn : Byte → Flags → Byte × Flags} {use : Byte → State → State}
    {g : Byte → Cpu → Cpu} {r : Byte → Byte} (h : f.Modifies fn use) (s : State)
    (hr : ∀ m, (fn m s.cpu.flags).1 = r m)
    (hu : ∀ m (u : State), u.cpu.flags = s.cpu.flags →
      use (r m) (u.setFlags (fn m s.cpu.flags).2) = u.withCpu (g m u.cpu))
    (hc : ∀ m c, (g m c).cycles = c.cycles) : exec f.instr s = .next (f.modified s r g) :=
  (h s).trans (rmwOp_modified s hr hu hc)

theorem incForms_modify (b : Byte) (a : Word) : ∀ f ∈ incForms b a, f.Modifies incByte setZNof :=
  List.forall_iff_forall_mem.1 ⟨fun _ => rfl, fun _ => rfl, fun _ => rfl, fun _ => rfl⟩

theorem decForms_modify (b : Byte) (a : Word) : ∀ f ∈ decForms b a, f.Modifies decByte setZNof :=
  List.forall_iff_forall_mem.1 ⟨fun _ => rfl, fun _ => rfl, fun _ => rfl, fun _ => rfl⟩

theorem aslForms_modify (b : Byte) (a : Word) : ∀ f ∈ aslForms b a, f.Modifies shiftLeft setZNof :=
  List.forall_iff_forall_mem.1 ⟨fun _ => rfl, fun _ => rfl, fun _ => rfl, fun _ => rfl⟩

theorem lsrForms_modify (b : Byte) (a : Word) : ∀ f ∈ lsrForms b a, f.Modifies shiftRight setZNof :=
  List.forall_iff_forall_mem.1 ⟨fun _ => rfl, fun _ => rfl, fun _ => rfl, fun _ => rfl⟩

theorem rolForms_modify (b : Byte) (a : Word) : ∀ f ∈ rolForms b a, f.Modifies rotateLeft setZNof :=
  List.forall_iff_forall_mem.1 ⟨fun _ => rfl, fun _ => rfl, fun _ => rfl, fun _ => rfl⟩

theorem rorForms_modify (b : Byte) (a : Word) : ∀ f ∈ rorForms b a, f.Modifies rotateRight setZNof :=
  List.forall_iff_forall_mem.1 ⟨fun _ => rfl, fun _ => rfl, fun _ => rfl, fun _ => rfl⟩

theorem sloForms_modify (b : Byte) (a : Word) : ∀ f ∈ sloForms b a, f.Modifies shiftLeft orA :=
  List.forall_iff_forall_mem.1 ⟨fun _ => rfl, fun _ => rfl, fun _ => rfl, fun _ => rfl, fun _ => rfl, fun _ => rfl,
    fun _ => rfl⟩

theorem rlaForms_modify (b : Byte) (a : Word) : ∀ f ∈ rlaForms b a, f.Modifies rotateLeft andA :=
  List.forall_iff_forall_mem.1 ⟨fun _ => rfl, fun _ => rfl, fun _ => rfl, fun _ => rfl, fun _ => rfl, fun _ => rfl,
    fun _ => rfl⟩

theorem sreForms_modify (b : Byte) (a : Word) : ∀ f ∈ sreForms b a, f.Modifies shiftRight eorA :=
  List.forall_iff_forall_mem.1 ⟨fun _ => rfl, fun _ => rfl, fun _ => rfl, fun _ => rfl, fun _ => rfl, fun _ => rfl,
    fun _ => rfl⟩

theorem rraForms_modify (b : Byte) (a : Word) : ∀ f ∈ rraForms b a, f.Modifies rotateRight addA :=
  List.forall_iff_forall_mem.1 ⟨fun _ => rfl, fun _ => rfl, fun _ => rfl, fun _ => rfl, fun _ => rfl, fun _ => rfl,
    fun _ => rfl⟩

theorem dcpForms_modify (b : Byte) (a : Word) : ∀ f ∈ dcpForms b a, f.Modifies decByte compareA :=
  List.forall_iff_forall_mem.1 ⟨fun _ => rfl, fun _ => rfl, fun _ => rfl, fun _ => rfl, fun _ => rfl, fun _ => rfl,
    fun _ => rfl⟩

theorem isbForms_modify (b : Byte) (a : Word) : ∀ f ∈ isbForms b a, f.Modifies incByte subtractA :=
  List.forall_iff_forall_mem.1 ⟨fun _ => rfl, fun _ => rfl, fun _ => rfl, fun _ => rfl, fun _ => rfl, fun _ => rfl,
    fun _ => rfl⟩

/-! ### The carry rotated in -/

/-- What ROL puts at bit 0. -/
theorem rotateLeft_fst (m : Byte) (f : Flags) :
    (rotateLeft m f).1 = m <<< 1 ||| (if f.c = true then 1 else 0) := rfl

/-- What ROR puts at bit 7. -/
theorem rotateRight_fst (m : Byte) (f : Flags) :
    (rotateRight m f).1 = m >>> 1 ||| (if f.c = true then 0x80 else 0) := by
  unfold rotateRight bitByte
  cases f.c <;> rfl

/-- Writing Z and N of a result after flags that agree with the CPU's but for C. -/
theorem setZNof_setFlags (r : Byte) (u : State) (f : Flags) :
    setZNof r (u.setFlags f) = u.withCpu ({ u.cpu with flags := f }.withZN r) := State.setZN_eq _ r

theorem loadA_setFlags (r : Byte) (u : State) (f : Flags) :
    loadA r (u.setFlags f) = u.withCpu ({ u.cpu with a := r, flags := f }.withZN r) := loadA_eq r _

/-- Settles O20: the function of each form is its rule's, and Z and N are set from its result. -/
theorem readModifyWrite : Obligations.ReadModifyWrite := by
  intro b a s top low
  refine ⟨
    fun f hf => (incForms_modify b a f hf).exec_eq s (fun _ => rfl) (fun m u hu => ?_) fun _ _ => rfl,
    fun f hf => (decForms_modify b a f hf).exec_eq s (fun _ => rfl) (fun m u hu => ?_) fun _ _ => rfl,
    fun f hf => (aslForms_modify b a f hf).exec_eq s (fun _ => rfl) (fun m u hu => ?_) fun _ _ => rfl,
    fun f hf => (lsrForms_modify b a f hf).exec_eq s (fun _ => rfl) (fun m u hu => ?_) fun _ _ => rfl,
    fun f hf => (rolForms_modify b a f hf).exec_eq s (fun _ => rotateLeft_fst _ _) (fun m u hu => ?_) fun _ _ => rfl,
    fun f hf => (rorForms_modify b a f hf).exec_eq s (fun _ => rotateRight_fst _ _) (fun m u hu => ?_) fun _ _ => rfl⟩
    <;> rw [setZNof_setFlags, ← hu]
  · rfl
  · rfl
  · rw [shiftLeft, bit_seven]
  · rfl
  · rw [rotateLeft, bit_seven]
  · rfl

/-- Settles O21: the memory step of each form is a read-modify-write form's, the register step a read form's. -/
theorem combinedReadModifyWrite : Obligations.CombinedReadModifyWrite := by
  intro b a s top low
  refine ⟨
    fun f hf => (sloForms_modify b a f hf).exec_eq s (fun _ => rfl) (fun m u hu => ?_) fun _ _ => rfl,
    fun f hf => (rlaForms_modify b a f hf).exec_eq s (fun _ => rotateLeft_fst _ _) (fun m u hu => ?_) fun _ _ => rfl,
    fun f hf => (sreForms_modify b a f hf).exec_eq s (fun _ => rfl) (fun m u hu => ?_) fun _ _ => rfl,
    fun f hf => (rraForms_modify b a f hf).exec_eq s (fun _ => rotateRight_fst _ _) (fun m u hu => ?_) fun _ _ => rfl,
    fun f hf => (dcpForms_modify b a f hf).exec_eq s (fun _ => rfl) (fun m u hu => ?_) fun _ _ => rfl,
    fun f hf => (isbForms_modify b a f hf).exec_eq s (fun _ => rfl) (fun m u hu => ?_) fun _ _ => rfl⟩
  · rw [orA, loadA_setFlags, shiftLeft, bit_seven, ← hu]; rfl
  · rw [andA, loadA_setFlags, rotateLeft, bit_seven, ← hu]; rfl
  · rw [eorA, loadA_setFlags, shiftRight, ← hu]; rfl
  · rw [addA, addWithCarry_eq rfl rfl, rotateRight, ← hu]; rfl
  · rw [compareA, compareFlags_eq, decByte, ← hu]; rfl
  · rw [subtractA, addA, addWithCarry_eq rfl (ofNat_add_not ..), incByte, ← hu]
    simp only [carry_not_iff]
    rfl

/-! ### The cartridge under a write of the PPU's space -/

/-- A cartridge that differs in CHR memory and in what the MMC3's A12 watch counts. -/
def ChrFrame (c d : Cart) : Prop :=
  d = { c with
    chr := d.chr
    mmc3 := { c.mmc3 with
      irqCounter := d.mmc3.irqCounter, irqReload := d.mmc3.irqReload, irqPending := d.mmc3.irqPending
      a12Prev := d.mmc3.a12Prev, a12LowSince := d.mmc3.a12LowSince } }

theorem CartFrame.chrFrame {c d : Cart} (h : CartFrame c d) : ChrFrame c d := by
  unfold ChrFrame
  rw [h]

theorem ChrFrame.chrWrite {c d : Cart} (h : ChrFrame c d) (a : PpuAddr) (v : Byte) : ChrFrame c (d.chrWrite a v) := by
  unfold Cart.chrWrite
  split
  · unfold ChrFrame at h ⊢
    rw [h]
  · exact h

/-- A PPU-space write reaches CHR memory and the A12 watch (R250, R262). -/
theorem Video.write_chrFrame (b : Video) (a : PpuAddr) (v : Byte) : ChrFrame b.cart (b.write a v).cart := by
  have hnotify : ChrFrame b.cart (b.notify a).cart := CartFrame.chrFrame (Cart.notify_frame _ _ _ _)
  unfold Video.write
  extract_lets b'
  split
  · exact hnotify.chrWrite a v
  · split <;> exact hnotify

theorem ChrFrame.prgIndex {c d : Cart} (h : ChrFrame c d) (a : Word) : d.prgIndex a = c.prgIndex a :=
  Cart.prgIndex_congr (by rw [h]) (by rw [h]) (by rw [h]) (by rw [h]) (by rw [h]) a

/-! ### The frame of a store -/

/-- Plain memory reads the same where RAM, PRG-RAM, PRG-ROM and the shown banks are the same. -/
theorem State.peek_congr {s t : State} {b : Word} (hb : plainAddress b = true)
    (hram : b.toNat < 0x2000 → t.bus.ram.get (b.toNat % 0x800) = s.bus.ram.get (b.toNat % 0x800))
    (hprgRam : 0x6000 ≤ b.toNat → b.toNat < 0x8000 →
      t.cart.prgRam.get (b.toNat - 0x6000) = s.cart.prgRam.get (b.toNat - 0x6000))
    (hrom : 0x8000 ≤ b.toNat → t.cart.prgRom.get (t.cart.prgIndex b) = s.cart.prgRom.get (s.cart.prgIndex b)) :
    t.peek b = s.peek b := by
  have hp (u : State) : u.peek b = (u.read b).1 := by rw [u.read_plain ((plainAddress_iff b).1 hb)]
  rw [hp, hp]
  rcases (plainAddress_iff b).1 hb with h | h
  · rw [State.read_ram _ h, State.read_ram _ h]
    exact hram h
  · by_cases h' : b.toNat < 0x8000
    · rw [State.read_prgRam _ h h', State.read_prgRam _ h h']
      exact hprgRam h h'
    · rw [State.read_rom _ (by omega), State.read_rom _ (by omega)]
      exact hrom (by omega)

theorem StoreFrame.refl (ea : Word) (s : State) : StoreFrame ea s s where
  plain _ _ _ _ := rfl
  ram _ := rfl
  prgRom := rfl
  prgRam _ := rfl
  ppu _ := rfl
  apu _ := rfl
  cart _ _ := rfl
  chr _ := rfl
  mmc3 _ _ := rfl
  header := rfl
  dma _ := ⟨rfl, rfl⟩
  strobe _ := rfl
  shift0 _ := rfl
  shift1 _ _ := rfl
  inputs := ⟨rfl, rfl, rfl⟩
  settings := rfl

theorem StoreFrame.isMmc3 {ea : Word} {s t : State} (h : StoreFrame ea s t) : t.cart.isMmc3 = s.cart.isMmc3 := by
  unfold Cart.isMmc3
  rw [h.header]

theorem StoreFrame.trans {ea : Word} {s t u : State} (h : StoreFrame ea s t) (k : StoreFrame ea t u) :
    StoreFrame ea s u where
  plain b hb hn hm := (k.plain b hb hn (h.isMmc3 ▸ hm)).trans (h.plain b hb hn hm)
  ram ha := (k.ram ha).trans (h.ram ha)
  prgRom := k.prgRom.trans h.prgRom
  prgRam ha := (k.prgRam ha).trans (h.prgRam ha)
  ppu ha := (k.ppu ha).trans (h.ppu ha)
  apu ha := (k.apu ha).trans (h.apu ha)
  cart hn ha := (k.cart hn ha).trans (h.cart hn ha)
  chr hn := (k.chr hn).trans (h.chr hn)
  mmc3 hn ha := (k.mmc3 hn (h.isMmc3 ▸ ha)).trans (h.mmc3 hn ha)
  header := by rw [k.header, h.header]
  dma ha := ⟨(k.dma ha).1.trans (h.dma ha).1, (k.dma ha).2.trans (h.dma ha).2⟩
  strobe ha := (k.strobe ha).trans (h.strobe ha)
  shift0 ha := (k.shift0 ha).trans (h.shift0 ha)
  shift1 ha hb := (k.shift1 ha hb).trans (h.shift1 ha hb)
  inputs := by
    obtain ⟨h0, h1, h2⟩ := h.inputs
    obtain ⟨k0, k1, k2⟩ := k.inputs
    exact ⟨k0.trans h0, k1.trans h1, k2.trans h2⟩
  settings := k.settings.trans h.settings

/-- Only the state outside the CPU counts. -/
theorem StoreFrame.congr {ea : Word} {s t u : State} (h : StoreFrame ea s t) (hb : u.bus = t.bus) (hp : u.ppu = t.ppu)
    (ha : u.apu = t.apu) (hc : u.cart = t.cart) (hs : u.settings = t.settings) : StoreFrame ea s u := by
  have hu : u = t.withCpu u.cpu := by
    obtain ⟨_, _, _, _, _, _⟩ := u
    simp only [State.withCpu]
    simp only at hb hp ha hc hs
    rw [hb, hp, ha, hc, hs]
  rw [hu]
  exact ⟨h.plain, h.ram, h.prgRom, h.prgRam, h.ppu, h.apu, h.cart, h.chr, h.mmc3, h.header, h.dma, h.strobe, h.shift0,
    h.shift1, h.inputs, h.settings⟩

/-- A read of PPU register `r` leaves everything alone but the PPU and the draw counter, and for $2007 the cartridge. -/
theorem State.readPpuReg_untouched (s : State) (r : Nat) :
    (s.readPpuReg r).2.apu = s.apu ∧ (r ≠ 7 → (s.readPpuReg r).2.cart = s.cart) ∧
    (s.readPpuReg r).2.bus.shift0 = s.bus.shift0 ∧ (s.readPpuReg r).2.bus.shift1 = s.bus.shift1 := by
  unfold State.readPpuReg
  split
  · exact ⟨rfl, fun _ => rfl, rfl, rfl⟩
  · exact ⟨rfl, fun _ => rfl, rfl, rfl⟩
  · exact ⟨rfl, fun h => absurd rfl h, rfl, rfl⟩
  · exact ⟨rfl, fun _ => rfl, rfl, rfl⟩

/-- A bus read leaves alone the devices that its address does not name (R200). -/
theorem State.read_untouched (s : State) (a : Word) :
    (¬ (0x2000 ≤ a.toNat ∧ a.toNat < 0x4000) → (s.read a).2.ppu = s.ppu) ∧
    (a.toNat ≠ 0x4015 → (s.read a).2.apu = s.apu) ∧ (¬ namesPpuData a → (s.read a).2.cart = s.cart) ∧
    (a.toNat ≠ 0x4016 → (s.read a).2.bus.shift0 = s.bus.shift0) ∧
    (a.toNat ≠ 0x4017 → (s.read a).2.bus.shift1 = s.bus.shift1) := by
  unfold State.read
  extract_lets n
  split
  · exact ⟨fun _ => rfl, fun _ => rfl, fun _ => rfl, fun _ => rfl, fun _ => rfl⟩
  split
  · next h h' =>
    obtain ⟨hapu, hcart, h0, h1⟩ := s.readPpuReg_untouched (n % 8)
    exact ⟨fun hn => absurd ⟨Nat.le_of_not_lt h, h'⟩ hn, fun _ => hapu,
      fun hn => hcart fun e => hn ⟨Nat.le_of_not_lt h, h', e⟩, fun _ => h0, fun _ => h1⟩
  split
  · next h => exact ⟨fun _ => rfl, fun hn => absurd h hn, fun _ => rfl, fun _ => rfl, fun _ => rfl⟩
  split
  · next h =>
    unfold State.readController0
    split <;> exact ⟨fun _ => rfl, fun _ => rfl, fun _ => rfl, fun hn => absurd h hn, fun _ => rfl⟩
  split
  · next h =>
    unfold State.readController1
    split <;> exact ⟨fun _ => rfl, fun _ => rfl, fun _ => rfl, fun _ => rfl, fun hn => absurd h hn⟩
  split
  · exact ⟨fun _ => rfl, fun _ => rfl, fun _ => rfl, fun _ => rfl, fun _ => rfl⟩
  · unfold State.readCart
    split <;> exact ⟨fun _ => rfl, fun _ => rfl, fun _ => rfl, fun _ => rfl, fun _ => rfl⟩

/-- A read is within the frame of a store to its address. -/
theorem State.read_storeFrame (s : State) (a : Word) : StoreFrame a s (s.read a).2 := by
  have h := s.read_frame a
  obtain ⟨hppu, hapu, hcart, hshift0, hshift1⟩ := s.read_untouched a
  exact
    { plain := fun b hb _ _ => h.peek ((plainAddress_iff b).1 hb)
      ram := fun _ => h.ram
      prgRom := h.prgRom
      prgRam := fun _ => h.prgRam
      ppu := hppu
      apu := fun hn => hapu fun e => hn (by omega)
      cart := fun hn _ => hcart hn
      chr := fun _ => by rw [h.cart]
      mmc3 := fun hn _ => by rw [hcart hn]
      header := by rw [h.cart]
      dma := fun _ => by rw [h.bus]; exact ⟨rfl, rfl⟩
      strobe := fun _ => by rw [h.bus]
      shift0 := hshift0
      shift1 := fun _ => hshift1
      inputs := by rw [h.bus]; exact ⟨rfl, rfl, rfl⟩
      settings := h.settings }

/-- A write of PPU register `r` leaves everything outside the PPU and the CPU alone, and for $2007 not the cartridge. -/
theorem State.writePpuReg_untouched (s : State) (r : Nat) (v : Byte) :
    (s.writePpuReg r v).bus = s.bus ∧ (s.writePpuReg r v).apu = s.apu ∧
    (s.writePpuReg r v).settings = s.settings ∧ ChrFrame s.cart (s.writePpuReg r v).cart ∧
    (r ≠ 7 → (s.writePpuReg r v).cart = s.cart) := by
  unfold State.writePpuReg
  split
  case h_7 =>
    exact ⟨rfl, rfl, rfl, Video.write_chrFrame ⟨s.ppu, s.cart, s.settings⟩ _ _, fun h => absurd rfl h⟩
  all_goals exact ⟨rfl, rfl, rfl, rfl, fun _ => rfl⟩

theorem State.write_ppu_storeFrame (s : State) {a : Word} (h : 0x2000 ≤ a.toNat) (h' : a.toNat < 0x4000) (v : Byte) :
    StoreFrame a s (s.write a v) := by
  rw [s.write_ppu h h']
  obtain ⟨hbus, hapu, hset, hframe, hcart⟩ := s.writePpuReg_untouched (a.toNat % 8) v
  have hcart' (hn : ¬ namesPpuData a) := hcart fun e => hn ⟨h, h', e⟩
  generalize s.writePpuReg (a.toNat % 8) v = t at hbus hapu hset hframe hcart'
  exact
    { plain := fun b hb _ _ => State.peek_congr hb (fun _ => by rw [hbus]) (fun _ _ => by rw [hframe])
        fun _ => by rw [hframe.prgIndex, hframe]
      ram := fun _ => by rw [hbus]
      prgRom := by rw [hframe]
      prgRam := fun _ => by rw [hframe]
      ppu := fun hn => absurd ⟨h, h'⟩ hn
      apu := fun _ => hapu
      cart := fun hn _ => hcart' hn
      chr := fun hn => by rw [hcart' hn]
      mmc3 := fun hn _ => by rw [hcart' hn]
      header := by rw [hframe]
      dma := fun _ => by rw [hbus]; exact ⟨rfl, rfl⟩
      strobe := fun _ => by rw [hbus]
      shift0 := fun _ => by rw [hbus]
      shift1 := fun _ _ => by rw [hbus]
      inputs := by rw [hbus]; exact ⟨rfl, rfl, rfl⟩
      settings := hset }

theorem State.write_ram_storeFrame (s : State) {a : Word} (h : a.toNat < 0x2000) (v : Byte) :
    StoreFrame a s (s.write a v) := by
  rw [s.write_ram h]
  refine { StoreFrame.refl a s with plain := fun b hb hn _ => ?_, ram := fun h' => absurd h (Nat.not_lt.2 h') }
  refine State.peek_congr hb (fun hlt => Memory.get_set_ne _ (fun e => hn ?_) v) (fun _ _ => rfl) fun _ => rfl
  rw [sameByte, if_pos h]
  exact ⟨hlt, e.symm⟩

theorem State.write_cart_storeFrame (s : State) {a : Word} (h : 0x4020 ≤ a.toNat) (v : Byte) :
    StoreFrame a s (s.write a v) := by
  rw [s.write_cart h]
  unfold Cart.cpuWrite
  split
  · exact .refl a s
  split
  · next h6 h8 =>
    refine { StoreFrame.refl a s with
      plain := fun b hb hn _ => State.peek_congr hb (fun _ => rfl)
        (fun h1 h2 => Memory.get_set_ne _ (fun e => hn ?_) v) fun _ => rfl
      prgRam := fun hn => absurd ⟨Nat.le_of_not_lt h6, h8⟩ hn
      cart := fun _ h' => absurd h' h6
      header := rfl }
    rw [sameByte, if_neg (by omega)]
    exact BitVec.eq_of_toNat_eq (by omega)
  split
  · next h6 h8 hm =>
    exact { StoreFrame.refl a s with
      plain := fun b hb _ hn => State.peek_congr hb (fun _ => rfl) (fun _ _ => rfl)
        fun h' => absurd ⟨hm, Nat.le_of_not_lt h8, h'⟩ hn
      cart := fun _ h' => absurd h' h6
      header := rfl
      mmc3 := fun _ h' => by
        rcases h' with h' | h'
        · exact absurd h' h8
        · rw [h'] at hm; cases hm }
  · exact .refl a s

theorem StoreFrame.ofApu {a : Word} (h : 0x4000 ≤ a.toNat ∧ a.toNat < 0x4018) (s : State) (u : Apu) :
    StoreFrame a s { s with apu := u } := { StoreFrame.refl a s with apu := fun hn => absurd h hn }

/-- A bus write is within the frame of a store to its address. -/
theorem State.write_storeFrame (s : State) (a : Word) (v : Byte) : StoreFrame a s (s.write a v) := by
  rcases writeRange a with h | ⟨h, h'⟩ | h | h | ⟨h, h', h14, h16⟩ | ⟨h, h'⟩ | h
  · exact s.write_ram_storeFrame h v
  · exact s.write_ppu_storeFrame h h' v
  · rw [s.write_dma h]
    exact { StoreFrame.refl a s with dma := fun hn => absurd h hn }
  · rw [s.write_strobe h]
    unfold State.writeStrobe
    extract_lets new
    split
    · exact { StoreFrame.refl a s with
        strobe := fun hn => absurd h hn, shift0 := fun hn => absurd h hn, shift1 := fun hn _ => absurd h hn }
    · exact { StoreFrame.refl a s with strobe := fun hn => absurd h hn }
  · rw [s.write_apu h h' h14 h16]
    exact .ofApu ⟨h, h'⟩ s _
  · rw [s.write_none h h']
    exact .refl a s
  · exact s.write_cart_storeFrame h v

theorem State.modify_storeFrame (s : State) (ea : Word) (r : Byte → Byte) : StoreFrame ea s (s.modify ea r) := by
  unfold State.modify
  extract_lets q
  split
  · exact ((s.read_storeFrame ea).trans (State.write_storeFrame _ _ _)).trans (State.write_storeFrame _ _ _)
  · exact (s.read_storeFrame ea).trans (State.write_storeFrame _ _ _)

/-! ### The frame of the forms that store -/

/-- In the CPU the accesses of a read-modify-write touch the NMI latch only. -/
theorem State.modify_cpu (s : State) (ea : Word) (r : Byte → Byte) :
    (s.modify ea r).cpu = { s.cpu with nmiPending := (s.modify ea r).cpu.nmiPending } := by
  unfold State.modify
  extract_lets q
  rw [State.write_cpu]
  split
  · rw [State.write_cpu, State.read_cpu]
  · rw [State.read_cpu]

/-- The registers that an instruction which stores leaves alone. -/
structure StoreKept (c d : Cpu) : Prop where
  x : d.x = c.x
  y : d.y = c.y
  sp : d.sp = c.sp
  pc : d.pc = c.pc
  hostIrq : d.hostIrq = c.hostIrq
  refused : d.refused = c.refused
  flagI : d.flags.i = c.flags.i
  flagD : d.flags.d = c.flags.d

/-- What a form's function and register step leave alone in the CPU. -/
def ModifiesOnly (fn : Byte → Flags → Byte × Flags) (use : Byte → State → State) : Prop :=
  ∀ (m : Byte) (f : Flags) (r : Byte) (s : State), use r (s.setFlags (fn m f).2) = s.withCpu (use r (s.setFlags (fn m f).2)).cpu ∧
    (use r (s.setFlags (fn m f).2)).cpu.nmiPending = s.cpu.nmiPending ∧
    (f = s.cpu.flags → StoreKept s.cpu (use r (s.setFlags (fn m f).2)).cpu)

/-- What every read-modify-write form does. -/
theorem rmwForms_modify (b : Byte) (a : Word) : ∀ f ∈ rmwForms b a, ∃ fn use,
    f.Modifies fn use ∧ ModifiesOnly fn use := by
  intro f hf
  simp only [rmwForms, List.mem_append] at hf
  obtain (((((((((((h | h) | h) | h) | h) | h) | h) | h) | h) | h) | h) | h) := hf
  · exact ⟨_, _, incForms_modify b a f h, fun _ _ _ _ => ⟨rfl, rfl, by rintro rfl; constructor <;> rfl⟩⟩
  · exact ⟨_, _, decForms_modify b a f h, fun _ _ _ _ => ⟨rfl, rfl, by rintro rfl; constructor <;> rfl⟩⟩
  · exact ⟨_, _, aslForms_modify b a f h, fun _ _ _ _ => ⟨rfl, rfl, by rintro rfl; constructor <;> rfl⟩⟩
  · exact ⟨_, _, lsrForms_modify b a f h, fun _ _ _ _ => ⟨rfl, rfl, by rintro rfl; constructor <;> rfl⟩⟩
  · exact ⟨_, _, rolForms_modify b a f h, fun _ _ _ _ => ⟨rfl, rfl, by rintro rfl; constructor <;> rfl⟩⟩
  · exact ⟨_, _, rorForms_modify b a f h, fun _ _ _ _ => ⟨rfl, rfl, by rintro rfl; constructor <;> rfl⟩⟩
  · exact ⟨_, _, sloForms_modify b a f h, fun _ _ _ _ => ⟨rfl, rfl, by rintro rfl; constructor <;> rfl⟩⟩
  · exact ⟨_, _, rlaForms_modify b a f h, fun _ _ _ _ => ⟨rfl, rfl, by rintro rfl; constructor <;> rfl⟩⟩
  · exact ⟨_, _, sreForms_modify b a f h, fun _ _ _ _ => ⟨rfl, rfl, by rintro rfl; constructor <;> rfl⟩⟩
  · exact ⟨_, _, rraForms_modify b a f h, fun _ _ _ _ => ⟨rfl, rfl, by rintro rfl; constructor <;> rfl⟩⟩
  · exact ⟨_, _, dcpForms_modify b a f h, fun _ _ _ _ => ⟨rfl, rfl, by rintro rfl; constructor <;> rfl⟩⟩
  · exact ⟨_, _, isbForms_modify b a f h, fun _ _ _ _ => ⟨rfl, rfl, by rintro rfl; constructor <;> rfl⟩⟩

/-- What every store form does. -/
theorem storeForms_store (b : Byte) (a : Word) : ∀ f ∈ storeForms b a, ∃ v, f.Stores v := by
  intro f hf
  simp only [storeForms, List.mem_append] at hf
  obtain (((h | h) | h) | h) := hf
  · exact ⟨_, staForms_store b a f h⟩
  · exact ⟨_, stxForms_store b a f h⟩
  · exact ⟨_, styForms_store b a f h⟩
  · exact ⟨_, saxForms_store b a f h⟩

/-- The frame of a plain store. -/
theorem MemForm.Stores.frame {f : MemForm} {v : Cpu → Byte} {s t : State} (h : f.Stores v)
    (e : exec f.instr s = .next t) :
    StoreFrame (f.mem.resolve s).ea s t ∧ NmiLatchFrame (f.mem.resolve s).ea s t ∧ StoreKept s.cpu t.cpu ∧
    t.cpu.a = s.cpu.a ∧ t.cpu.flags = s.cpu.flags := by
  have hcpu := s.write_cpu (f.mem.resolve s).ea (v s.cpu)
  rw [← Host.Outcome.next.inj ((h.exec_eq s).symm.trans e), MemForm.stored]
  refine ⟨(s.write_storeFrame _ _).congr rfl rfl rfl rfl rfl, (s.write_nmiLatch _ _).congr rfl, ?_, ?_, ?_⟩
  · rw [State.addCycles, hcpu]
    constructor <;> rfl
  · rw [State.addCycles, hcpu]
  · rw [State.addCycles, hcpu]

/-- The frame of a read-modify-write. -/
theorem MemForm.Modifies.frame {f : MemForm} {fn : Byte → Flags → Byte × Flags} {use : Byte → State → State}
    {s t : State} (h : f.Modifies fn use) (huse : ModifiesOnly fn use) (e : exec f.instr s = .next t) :
    StoreFrame (f.mem.resolve s).ea s t ∧ NmiLatchFrame (f.mem.resolve s).ea s t ∧ StoreKept s.cpu t.cpu := by
  have hexec := (h s).trans (rmwOp_eq ..)
  rw [State.rmw_modify] at hexec
  obtain rfl := Host.Outcome.next.inj (hexec.symm.trans e)
  generalize (f.mem.resolve s).ea = ea
  have hcpu := s.modify_cpu ea fun m => (fn m s.cpu.flags).1
  have hstore := s.modify_storeFrame ea fun m => (fn m s.cpu.flags).1
  have hnmi := s.modify_nmiLatch ea fun m => (fn m s.cpu.flags).1
  generalize (s.modify ea fun m => (fn m s.cpu.flags).1) = u at hcpu hstore hnmi ⊢
  obtain ⟨hst, hlatch, hkept⟩ := huse (s.read ea).1 s.cpu.flags (fn (s.read ea).1 s.cpu.flags).1 u
  have hk := hkept (by rw [hcpu])
  refine ⟨?_, hnmi.congr hlatch, ?_⟩
  · rw [hst]
    exact hstore.congr rfl rfl rfl rfl rfl
  · rw [hcpu] at hk
    exact ⟨hk.x, hk.y, hk.sp, hk.pc, hk.hostIrq, hk.refused, hk.flagI, hk.flagD⟩

/-- Settles O22: a store form makes one write, a read-modify-write form a read and writes, all at its address. -/
theorem storingInstructionsFrame : Obligations.StoringInstructionsFrame := by
  intro b a s t f hf h
  by_cases hstore : f ∈ storeForms b a
  · obtain ⟨v, hv⟩ := storeForms_store b a f hstore
    obtain ⟨hframe, hnmi, hkept, ha, hflags⟩ := hv.frame h
    exact ⟨hframe, hnmi, hkept.x, hkept.y, hkept.sp, hkept.pc, hkept.hostIrq, hkept.refused, hkept.flagI, hkept.flagD,
      fun _ => ⟨ha, hflags⟩⟩
  · obtain ⟨fn, use, hmod, huse⟩ := rmwForms_modify b a f ((List.mem_append.1 hf).resolve_left hstore)
    obtain ⟨hframe, hnmi, hkept⟩ := hmod.frame huse h
    exact ⟨hframe, hnmi, hkept.x, hkept.y, hkept.sp, hkept.pc, hkept.hostIrq, hkept.refused, hkept.flagI, hkept.flagD,
      fun hs => absurd hs hstore⟩

end Sys2Proof.Machine
end

section
/-! The statements about registers, flags and the stack (spec 10 R101-R105; 41 R457-R471; 42 R503, R521-R528), control
transfer (40 R412, R426; 43 R550-R575), the entry into a handler (60 R710-R725), and the step and its fetch (40
R400-R402). -/

namespace Sys2Proof.Machine

/-! ### Registers and flags -/

/-- An implied instruction whose step is one of the CPU alone. -/
theorem impliedOp_withCpu {n : Nat} {use : State → State} {s : State} {d : Cpu} (hu : use s = s.withCpu d)
    (hc : d.cycles = s.cpu.cycles) :
    impliedOp n use s = .next (s.withCpu { d with cycles := s.cpu.cycles + n }) := by
  rw [impliedOp_eq, hu, ← hc]; rfl

/-- The accumulator form of a shift: A and C from the function, Z and N from its result. -/
theorem accOp_withCpu (n : Nat) (f : Byte → Flags → Byte × Flags) (s : State) :
    accOp n f s = .next (s.withCpu
      { { s.cpu with a := (f s.cpu.a s.cpu.flags).1, flags := (f s.cpu.a s.cpu.flags).2 }.withZN
          (f s.cpu.a s.cpu.flags).1 with cycles := s.cpu.cycles + n }) := by
  rw [accOp_eq, State.setZN_eq]; rfl

/-- Settles O23: each form applies its function of R503 to A. -/
theorem accumulatorShifts : Obligations.AccumulatorShifts := by
  intro s c top low shifted
  refine ⟨(accOp_withCpu 2 shiftLeft s).trans ?_, accOp_withCpu 2 shiftRight s,
    (accOp_withCpu 2 rotateLeft s).trans ?_, (accOp_withCpu 2 rotateRight s).trans ?_⟩
  · rw [shiftLeft, bit_seven]
  · rw [rotateLeft, bit_seven]; rfl
  · rw [rotateRight_fst]; rfl

/-- Settles O24: each but TXS loads its register. -/
theorem transfersAndCounts : Obligations.TransfersAndCounts := fun s =>
  ⟨impliedOp_withCpu (loadX_eq s.cpu.a s) rfl, impliedOp_withCpu (loadY_eq s.cpu.a s) rfl,
    impliedOp_withCpu (loadA_eq s.cpu.x s) rfl, impliedOp_withCpu (loadA_eq s.cpu.y s) rfl,
    impliedOp_withCpu (loadX_eq s.cpu.sp s) rfl, rfl,
    impliedOp_withCpu (loadX_eq (s.cpu.x + 1) s) rfl, impliedOp_withCpu (loadY_eq (s.cpu.y + 1) s) rfl,
    impliedOp_withCpu (loadX_eq (s.cpu.x - 1) s) rfl, impliedOp_withCpu (loadY_eq (s.cpu.y - 1) s) rfl⟩

/-- Settles O25: each writes its flag. -/
theorem flagInstructions : Obligations.FlagInstructions := fun _ => ⟨rfl, rfl, rfl, rfl, rfl, rfl, rfl⟩

/-! ### The bytes of P -/

/-- A fact about every record of flags, from one check for each of the 64. -/
theorem Flags.forall_iff {P : Flags → Prop} :
    (∀ f, P f) ↔ ∀ c z i d v n : Bool, P { c := c, z := z, i := i, d := d, v := v, n := n } :=
  ⟨fun h _ _ _ _ _ _ => h _, fun h f => h f.c f.z f.i f.d f.v f.n⟩

/-- Bits 5 and 4 of P, and the flags a whole write of P gives back (R102, R103). -/
theorem Flags.toByte_bits : ∀ f : Flags,
    f.toByte.getLsbD 5 = true ∧ f.toByte.getLsbD 4 = false ∧ Flags.ofByte f.toByte = f :=
  Flags.forall_iff.2 (by decide)

/-- What an interrupt pushes, and the flags that either pushed byte gives back. -/
theorem Flags.pushed_bits : ∀ f : Flags, f.pushedByInterrupt = f.toByte &&& 0xEF ∧
    f.pushedByInterrupt.getLsbD 5 = true ∧ Flags.ofByte f.pushedByInterrupt = f ∧
    Flags.ofByte f.pushedByInstruction = f :=
  Flags.forall_iff.2 (by decide)

/-- A whole write of P drops bits 4 and 5 (R102, R103). -/
theorem Flags.toByte_ofByte (v : Byte) : (Flags.ofByte v).toByte = (v &&& 0xCF) ||| 0x20 := by
  revert v; decide

/-- Settles O28: the bits of the bytes that P is observed, written and pushed as. -/
theorem statusBitsAsObserved : Obligations.StatusBitsAsObserved := by
  intro s v
  obtain ⟨h5, h4, hof⟩ := s.cpu.flags.toByte_bits
  obtain ⟨hpushed, hpushed5, -, -⟩ := s.cpu.flags.pushed_bits
  exact ⟨h5, h4, Flags.toByte_ofByte v, rfl, hpushed, hpushed5, hof⟩

/-! ### The stack -/

/-- A pull reads above the stack index and increments it (R467). -/
theorem State.pull_peek (s : State) :
    s.pull = (s.peek (stackAddr (s.cpu.sp + 1)), s.withCpu { s.cpu with sp := s.cpu.sp + 1 }) := by
  rw [State.pull_eq, State.peek_stack]; rfl

theorem State.pullWord_peek (s : State) :
    s.pullWord = (BitVec.ofNat 16 ((s.peek (stackAddr (s.cpu.sp + 1))).toNat +
      256 * (s.peek (stackAddr (s.cpu.sp + 2))).toNat), s.withCpu { s.cpu with sp := s.cpu.sp + 2 }) := by
  rw [State.pullWord_eq, State.peek_stack, State.peek_stack, ← wordOf_eq_ofNat]; rfl

theorem Flags.ofByte_eq (v : Byte) : Flags.ofByte v =
    { c := v.getLsbD 0, z := v.getLsbD 1, i := v.getLsbD 2, d := v.getLsbD 3, v := v.getLsbD 6, n := v.msb } := by
  rw [← bit_seven]; rfl

/-- PLA (R468): the byte pulled, loaded into A. -/
theorem exec_pla (s : State) : exec .pla s = .next (s.withCpu
    { { s.cpu with sp := s.cpu.sp + 1, a := s.peek (stackAddr (s.cpu.sp + 1)) }.withZN
        (s.peek (stackAddr (s.cpu.sp + 1))) with cycles := s.cpu.cycles + 4 }) := by
  refine impliedOp_withCpu (d := Cpu.withZN
    { s.cpu with sp := s.cpu.sp + 1, a := s.peek (stackAddr (s.cpu.sp + 1)) } _) ?_ rfl
  rw [pullA, State.pull_peek]
  exact loadA_eq _ _

/-- PLP (R471): the byte pulled, as a whole write of P. -/
theorem exec_plp (s : State) : exec .plp s = .next (s.withCpu { s.cpu with
    sp := s.cpu.sp + 1
    flags := Flags.ofByte (s.peek (stackAddr (s.cpu.sp + 1)))
    cycles := s.cpu.cycles + 4 }) := by
  refine impliedOp_withCpu (d := { s.cpu with sp := s.cpu.sp + 1, flags := Flags.ofByte _ }) ?_ rfl
  rw [pullP, State.pull_peek]; rfl

/-- Settles O26: PHA is one push, PLA and PLP one pull each. -/
theorem phaPlaPlp : Obligations.PhaPlaPlp := by
  intro s
  refine ⟨⟨(s.push s.cpu.a).addCycles 3, impliedOp_eq 3 pushA s, (s.push_pushed _).addCycles 3, ?_⟩,
    exec_pla s, ?_⟩
  · rw [State.addCycles, State.push_cpu]
  · rw [exec_plp, Flags.ofByte_eq]

/-! ### Branches -/

/-- The signed value of an offset byte, modulo the address space (R426). -/
theorem sext8_toNat (b : Byte) : ((sext8 b).toNat : Int) = b.toInt % 65536 := by
  revert b; decide

theorem branchForms_branch (b : Byte) (s : State) : ∀ p ∈ branchForms b, exec p.1 s = branchOp p.2 b s :=
  List.forall_iff_forall_mem.1 ⟨rfl, rfl, rfl, rfl, rfl, rfl, rfl, rfl⟩

/-- A branch, taken or not (R412, R550). -/
theorem branchOp_eq (c : Flags → Bool) (b : Byte) (s : State) :
    branchOp c b s = .next (s.withCpu { s.cpu with
      pc := if c s.cpu.flags = true then s.cpu.pc + sext8 b else s.cpu.pc
      cycles := s.cpu.cycles + 2 + (if c s.cpu.flags = true then
        (if (s.cpu.pc + sext8 b).toNat / 256 = s.cpu.pc.toNat / 256 then 1 else 2) else 0) }) := by
  unfold branchOp finish
  extract_lets target
  have hpage := pageDiffers_iff s.cpu.pc target
  split
  · next hc =>
    by_cases hp : s.cpu.pc.toNat / 256 = target.toNat / 256
    · rw [if_neg (mt hpage.1 (not_not.2 hp)), if_pos hp.symm]; rfl
    · rw [if_pos (hpage.2 hp), if_neg (Ne.symm hp)]; rfl
  · rfl

/-- Settles O29: each branch is `Branch` under its condition. -/
theorem branchesFollowTheFlag : Obligations.BranchesFollowTheFlag := by
  intro b s p hp
  refine ⟨s.cpu.pc + sext8 b, ?_, (branchForms_branch b s p hp).trans (branchOp_eq ..)⟩
  have h := sext8_toNat b
  rw [BitVec.toNat_add]
  omega

/-! ### Calls and returns -/

/-- RTS (R562): the word pulled, plus one. -/
theorem exec_rts (s : State) : exec .rts s = .next (s.withCpu { s.cpu with
    sp := s.cpu.sp + 2
    pc := BitVec.ofNat 16 ((s.peek (stackAddr (s.cpu.sp + 1))).toNat +
      256 * (s.peek (stackAddr (s.cpu.sp + 2))).toNat + 1)
    cycles := s.cpu.cycles + 6 }) := by
  rw [BitVec.ofNat_add _ 1]
  refine impliedOp_withCpu (d := { s.cpu with sp := s.cpu.sp + 2, pc := _ }) ?_ rfl
  rw [returnFromSubroutine, State.pullWord_peek]; rfl

/-- Settles O31: JSR pushes a word and sets PC, RTS pulls one. -/
theorem jsrAndRts : Obligations.JsrAndRts := by
  intro a s
  refine ⟨⟨((s.pushWord (s.cpu.pc - 1)).setPc a).addCycles 6, rfl,
    (s.pushWord_pushed _).congr rfl rfl rfl rfl rfl, ?_⟩, exec_rts s⟩
  rw [State.pushWord_eq]; rfl

/-- RTI (R563, R725), its flags as a whole write of P. -/
theorem exec_rti (s : State) : exec .rti s = .next (s.withCpu { s.cpu with
    sp := s.cpu.sp + 3
    flags := Flags.ofByte (s.peek (stackAddr (s.cpu.sp + 1)))
    pc := wordOf (s.peek (stackAddr (s.cpu.sp + 2))) (s.peek (stackAddr (s.cpu.sp + 3)))
    cycles := s.cpu.cycles + 6 }) := by
  refine impliedOp_withCpu (d := { s.cpu with sp := s.cpu.sp + 3, flags := _, pc := _ }) ?_ rfl
  rw [State.returnFromHandler_eq, State.peek_stack, State.peek_stack, State.peek_stack]; rfl

/-- Settles O32: RTI pulls P, then the word. -/
theorem rtiPullsStatusAndPc : Obligations.RtiPullsStatusAndPc := by
  intro s v
  rw [exec_rti, Flags.ofByte_eq, wordOf_eq_ofNat]

/-- Settles O33: BRK skips a byte and enters the handler with the byte PHP pushes. -/
theorem brkEntersTheHandler : Obligations.BrkEntersTheHandler := fun s =>
  ⟨_, rfl, (s.setPc (s.cpu.pc + 1)).enterHandler_entered s.cpu.flags.pushedByInstruction irqVector_le⟩

/-- Settles O34: the returns pull the bytes that the entries pushed. -/
theorem returnsUndoEntries : Obligations.ReturnsUndoEntries := by
  constructor
  · intro a s t h
    obtain ⟨t', ht', hpushed, hcpu⟩ := (jsrAndRts a s).1
    obtain rfl := Host.Outcome.next.inj (h.symm.trans ht')
    have hlo := hpushed.stored 1 _ rfl
    have hhi := hpushed.stored 0 _ rfl
    have h1 : t.cpu.sp + 1 = s.cpu.sp - BitVec.ofNat 8 1 := by rw [hcpu]; bv_omega
    have h2 : t.cpu.sp + 2 = s.cpu.sp - BitVec.ofNat 8 0 := by rw [hcpu]; bv_omega
    refine ⟨_, exec_rts t, ?_⟩
    rw [h1, h2, hlo, hhi, BitVec.ofNat_add _ 1, ← wordOf_eq_ofNat, wordOf_loByte_hiByte, hcpu]
    simp [State.withCpu]
  · intro p vector s t hp h
    obtain ⟨hpushed, hcpu⟩ := h
    have hflags : Flags.ofByte p = s.cpu.flags := by
      obtain ⟨-, -, hint, hins⟩ := s.cpu.flags.pushed_bits
      rcases hp with rfl | rfl
      · exact hins
      · exact hint
    have hp' := hpushed.stored 2 _ rfl
    have hlo := hpushed.stored 1 _ rfl
    have hhi := hpushed.stored 0 _ rfl
    have h1 : t.cpu.sp + 1 = s.cpu.sp - BitVec.ofNat 8 2 := by rw [hcpu]; bv_omega
    have h2 : t.cpu.sp + 2 = s.cpu.sp - BitVec.ofNat 8 1 := by rw [hcpu]; bv_omega
    have h3 : t.cpu.sp + 3 = s.cpu.sp - BitVec.ofNat 8 0 := by rw [hcpu]; bv_omega
    refine ⟨_, exec_rti t, ?_⟩
    rw [h1, h2, h3, hp', hlo, hhi, wordOf_loByte_hiByte, hflags, hcpu]
    simp [State.withCpu]

/-! ### Interrupts -/

/-- Settles O35: the NMI is tested first, and its sequence enters the handler. -/
theorem nmiIsTakenFirst : Obligations.NmiIsTakenFirst := by
  intro s hr ha hn
  refine ⟨_, s.clearNmi.enterHandler_entered s.cpu.flags.pushedByInterrupt nmiVector_le, ?_⟩
  rw [step, hr, if_neg Bool.false_ne_true, if_pos ha, State.systemStep, if_pos hn]; rfl

theorem Cart.isMmc3_iff (c : Cart) : c.isMmc3 = true ↔ c.mapperId = 4 := beq_iff_eq

/-- The line, by its three sources (R710). -/
theorem State.irqLine_iff (s : State) : s.irqLine = true ↔
    s.apu.frameIrq = true ∨ (s.cart.mapperId = 4 ∧ s.cart.mmc3.irqPending = true) ∨ s.cpu.hostIrq = true := by
  rw [State.irqLine, Cart.irqQuery, Bool.or_eq_true, Bool.or_eq_true, Bool.and_eq_true, Cart.isMmc3_iff, or_assoc]

/-- What is acknowledged (R711). -/
theorem State.acknowledgeIrq_eq (s : State) : s.acknowledgeIrq =
    { s with
      cpu := { s.cpu with hostIrq := false }
      cart := if s.settings.irqAutoackMapper = true ∧ s.cart.mapperId = 4 then
        { s.cart with mmc3 := { s.cart.mmc3 with irqPending := false } } else s.cart } := by
  unfold State.acknowledgeIrq State.acknowledgeIrqWith
  extract_lets s1
  split
  · next h =>
    rw [Cart.irqClear]
    by_cases hm : s.cart.mapperId = 4
    · rw [if_pos ((Cart.isMmc3_iff _).2 hm), if_pos ⟨h, hm⟩]
    · rw [if_neg (mt (Cart.isMmc3_iff _).1 hm), if_neg fun e => hm e.2]
  · next h => rw [if_neg fun e => h e.1]

/-- Settles O36: with no NMI and I clear the line is tested next, and its sequence enters the handler. -/
theorem irqIsTakenWhenNotMasked : Obligations.IrqIsTakenWhenNotMasked := by
  intro s hr ha hn hi hline
  rw [← s.irqLine_iff] at hline
  refine ⟨_, s.acknowledgeIrq_eq ▸ s.acknowledgeIrq.enterHandler_entered s.cpu.flags.pushedByInterrupt irqVector_le, ?_⟩
  rw [step, hr, if_neg Bool.false_ne_true, if_pos ha, State.systemStep, hn, if_neg Bool.false_ne_true, hline, hi,
    if_pos (show (true && !false) = true from rfl)]
  rw [State.interruptSequence, State.acknowledgeIrq_eq]

/-! ### The step and the fetch -/

/-- An instruction does not look at the bytes its row has no room for. -/
theorem instrOf_congr_one {op : Byte} (h : lengthOf op = 1) (b c b' c' : Byte) : instrOf op b c = instrOf op b' c' := by
  unfold instrOf
  unfold lengthOf OpRow.length at h
  cases hf : (rowOf op).form <;> simp [hf, Form.length] at h ⊢

theorem instrOf_congr_two {op : Byte} (h : lengthOf op = 2) (b c c' : Byte) : instrOf op b c = instrOf op b c' := by
  unfold instrOf
  unfold lengthOf OpRow.length at h
  cases hf : (rowOf op).form <;> simp [hf, Form.length] at h ⊢

/-- The fetch of a byte wherever it lies (R402). -/
theorem State.setPc_fetch (s : State) (q : Word) :
    (s.setPc q).fetch = ((s.read q).1, (s.read q).2.setPc (q + 1)) := by
  have hread : (s.setPc q).read q = ((s.read q).1, (s.read q).2.withCpu { s.cpu with pc := q }) :=
    s.read_withCpu { s.cpu with pc := q } q
  rw [State.fetch, State.setPc_pc, hread, State.setPc, State.setPc, State.read_cpu]; rfl

/-- Settles O6: one, two or three fetches in a row. -/
theorem fetchReadsTheInstruction : Obligations.FetchReadsTheInstruction := by
  intro s pc r0 r1 r2 n
  have f0 : s.fetch = (r0.1, r0.2.setPc (pc + 1)) := rfl
  have f1 : (r0.2.setPc (pc + 1)).fetch = (r1.1, r1.2.setPc (pc + 2)) := by
    rw [State.setPc_fetch, BitVec.add_assoc]; rfl
  have f2 : (r1.2.setPc (pc + 2)).fetch = (r2.1, r2.2.setPc (pc + 3)) := by
    rw [State.setPc_fetch, BitVec.add_assoc]; rfl
  have hcpu0 : r0.2.cpu = s.cpu := s.read_cpu pc
  have hcpu1 : r1.2.cpu = s.cpu := (r0.2.read_cpu _).trans hcpu0
  have hcpu2 : r2.2.cpu = s.cpu := (r1.2.read_cpu _).trans hcpu1
  have hstep : s.ready → ∀ t, exec s.fetchInstr.1 s.fetchInstr.2 = .next t →
      step s = .next (t.finishStep (t.cpu.cycles - s.cpu.cycles)) := by
    intro hready t ht
    rw [step_of_ready hready, State.cpuStep, ht, completeStep, State.fetchInstr_cycles]
  have hfetch : s.fetchInstr = (instrOf r0.1 r1.1 r2.1,
      if n = 1 then r0.2.setPc (pc + 1) else if n = 2 then r1.2.setPc (pc + 2) else r2.2.setPc (pc + 3)) := by
    rw [State.fetchInstr, f0]
    simp only [f1, f2]
    rcases lengthOf_cases r0.1 with hl | hl | hl
    · rw [show n = 1 from hl, if_pos hl, if_pos rfl, instrOf_congr_one hl]
    · rw [show n = 2 from hl, hl, if_neg (by decide), if_pos rfl, if_neg (by decide), if_pos rfl,
        instrOf_congr_two hl]
    · rw [show n = 3 from hl, hl, if_neg (by decide), if_neg (by decide), if_neg (by decide), if_neg (by decide)]
  rw [hfetch] at hstep ⊢
  refine ⟨?_, rfl, fun h => ?_, fun h => ?_, fun h => ?_, hstep⟩
  · rcases lengthOf_cases r0.1 with hl | hl | hl
    · simp only [show n = 1 from hl, if_true, State.setPc, hcpu0]; rfl
    · simp only [show n = 2 from hl, if_true, show ¬ 2 = 1 by decide, if_false, State.setPc, hcpu1]; rfl
    · simp only [show n = 3 from hl, show ¬ 3 = 1 by decide, show ¬ 3 = 2 by decide, if_false, State.setPc, hcpu2]; rfl
  · rw [if_pos h]; rfl
  · rw [h, if_neg (by decide), if_pos rfl]; rfl
  · rw [h, if_neg (by decide), if_neg (by decide)]; rfl

/-- What three bytes decode to, and how long its encoding is. -/
theorem decode_three {op b c : Byte} {i : Instr} {rest : List Byte} (h : decode [op, b, c] = .instr i rest) :
    i = instrOf op b c ∧ (encode i).length = lengthOf op := by
  have henc := congrArg List.length (decodeThenEncode _ _ _ h)
  rw [decode] at h
  rcases lengthOf_cases op with hl | hl | hl <;> simp [hl] at h henc ⊢ <;> obtain ⟨rfl, rfl⟩ := h <;>
    exact ⟨rfl, by simpa using henc.symm⟩

/-- Settles O5: a fetch from plain memory moves PC past the instruction and changes nothing else. -/
theorem stepRunsDecodedInstruction : Obligations.StepRunsDecodedInstruction := by
  intro s i rest hready h0 h1 h2 hdecode s1
  obtain ⟨hi, hlen⟩ := decode_three hdecode
  have hfetch : s.fetchInstr = (i, s1) := by
    rw [s.fetchInstr_plain h0 h1 h2, ← hi, ← hlen]; rfl
  have hstep : step s = completeStep s1 (exec i s1) := by
    rw [step_of_ready hready, State.cpuStep, hfetch]
  refine ⟨fun t ht => ?_, fun r hr => ?_⟩
  · rw [hstep, ht]; rfl
  · rw [hstep, hr]; rfl

end Sys2Proof.Machine
end

section
/-! The statements about plain memory (spec 20 R211, R227, R270, R271), the PPU's address space (20 R250-R253) and the
PPU's ports (61 R783-R795). -/

namespace Sys2Proof.Machine

/-! ### RAM, PRG-RAM and NROM -/

theorem Cart.isMmc3_eq_false {c : Cart} (h : c.mapperId ≠ 4) : c.isMmc3 = false :=
  Bool.eq_false_iff.2 (mt c.isMmc3_iff.1 h)

/-- An NROM cartridge drops a write to PRG-ROM (R211, R270). -/
theorem State.write_nrom (s : State) {a : Word} (h : 0x8000 ≤ a.toNat) (hm : s.cart.mapperId ≠ 4) (v : Byte) :
    s.write a v = s := by
  rw [s.write_cart (by omega), Cart.cpuWrite, if_neg (by omega), if_neg (by omega), Cart.isMmc3_eq_false hm,
    if_neg Bool.false_ne_true]

theorem State.read_nrom (s : State) {a : Word} (h : 0x8000 ≤ a.toNat) (hm : s.cart.mapperId ≠ 4) :
    (s.read a).1 = s.cart.prgRom.get ((a.toNat - 0x8000) % (s.cart.prgBanks * 16384)) := by
  rw [s.read_rom h, Cart.prgIndex, Cart.isMmc3_eq_false hm, if_neg Bool.false_ne_true, Cart.prgSize]

/-- Inverting bit 14 keeps an address in its half of the address space and moves it between the halves of PRG-ROM. -/
theorem xor_4000_spec (a : Word) : (a ^^^ 0x4000).toNat / 0x8000 = a.toNat / 0x8000 ∧
    (a ^^^ 0x4000).toNat % 0x4000 = a.toNat % 0x4000 := by
  rw [BitVec.toNat_xor]
  constructor
  · rw [show 0x8000 = 2 ^ 15 from rfl, Nat.xor_div_two_pow]
    exact Nat.xor_zero _
  · rw [show 0x4000 = 2 ^ 14 from rfl, Nat.xor_mod_two_pow]
    exact Nat.xor_zero _

theorem State.read_write_prgRam (s : State) {a : Word} (h : 0x6000 ≤ a.toNat) (h' : a.toNat < 0x8000) (v : Byte) :
    ((s.write a v).read a).1 = v := by
  rw [State.read_prgRam _ h h', s.write_cart (by omega), Cart.cpuWrite, if_neg (by omega), if_pos h']
  exact Memory.get_set_self ..

/-- Settles O48: a plain read is a peek, and each memory has its own rule. -/
theorem plainMemoryReadsBack : Obligations.PlainMemoryReadsBack := by
  intro s a v
  refine ⟨fun h => s.read_plain (by simpa [plainAddress] using h), fun h => ?_,
    fun h hm => ⟨s.write_nrom h hm v, s.read_nrom h hm⟩, fun h hm hone => ?_⟩
  · rcases h with h | ⟨h, h'⟩
    · rw [s.read_write_ram h h, if_pos rfl]
    · exact s.read_write_prgRam h h' v
  · obtain ⟨hdiv, hmod⟩ := xor_4000_spec a
    have hindex : ((a ^^^ 0x4000).toNat - 0x8000) % (1 * 16384) = (a.toNat - 0x8000) % (1 * 16384) := by
      generalize (a ^^^ 0x4000).toNat = m at hdiv hmod ⊢
      omega
    rw [s.read_nrom h hm, s.read_nrom (by omega) hm, hone, hindex]

/-! ### The PPU's address space -/

theorem Video.peek_chr (b : Video) {a : PpuAddr} (h : a.toNat < 0x2000) :
    b.peek a = b.cart.chr.get (b.cart.chrIndex a) := if_pos h

theorem Video.peek_nametable (b : Video) {a : PpuAddr} (h : 0x2000 ≤ a.toNat) (h' : a.toNat < 0x3F00) :
    b.peek a = b.ppu.ntRam.get (nametableIndex b.cart.nametableMirroring a) := by
  rw [Video.peek, if_neg (by omega), if_pos h']

theorem Video.peek_palette (b : Video) {a : PpuAddr} (h : 0x3F00 ≤ a.toNat) :
    b.peek a = b.ppu.palette.get (paletteIndex a) := by
  rw [Video.peek, if_neg (by omega), if_neg (by omega)]

theorem ChrFrame.chrIsRam {c d : Cart} (h : ChrFrame c d) : d.chrIsRam = c.chrIsRam := by rw [h]

/-- The A12 watch and CHR-RAM have no part in the maps of R252 and R287. -/
theorem ChrFrame.chrIndex {c d : Cart} (h : ChrFrame c d) (a : PpuAddr) : d.chrIndex a = c.chrIndex a := by
  rw [h]; rfl

theorem ChrFrame.nametableMirroring {c d : Cart} (h : ChrFrame c d) :
    d.nametableMirroring = c.nametableMirroring := by
  rw [h]; rfl

theorem Video.notify_chrFrame (b : Video) (a : PpuAddr) : ChrFrame b.cart (b.notify a).cart :=
  CartFrame.chrFrame (Cart.notify_frame _ _ _ _)

theorem Video.notify_chr (b : Video) (a : PpuAddr) : (b.notify a).cart.chr = b.cart.chr :=
  CartFrame.chr (Cart.notify_frame _ _ _ _)

/-- The notification changes no byte of the PPU's space. -/
@[simp] theorem Video.notify_peek (b : Video) (a c : PpuAddr) : (b.notify a).peek c = b.peek c := by
  have h := b.notify_chrFrame a
  unfold Video.peek Cart.chrRead
  rw [h.chrIndex, h.nametableMirroring, b.notify_chr]
  rfl

/-- What a write does to each of the three memories (R250, R211). -/
theorem Video.write_chr (b : Video) (a : PpuAddr) (v : Byte) : (b.write a v).cart.chr =
    if a.toNat < 0x2000 ∧ b.cart.chrIsRam = true then b.cart.chr.set (b.cart.chrIndex a) v else b.cart.chr := by
  have h := b.notify_chrFrame a
  unfold Video.write
  extract_lets b'
  split
  · next ha =>
    unfold Cart.chrWrite
    rw [h.chrIsRam, h.chrIndex, b.notify_chr]
    by_cases hram : b.cart.chrIsRam = true
    · rw [if_pos hram, if_pos ⟨ha, hram⟩]
    · rw [if_neg hram, if_neg fun e => hram e.2]
      exact b.notify_chr a
  · next ha =>
    rw [if_neg (c := _ ∧ _) fun e => ha e.1]
    split <;> exact b.notify_chr a

theorem Video.write_ntRam (b : Video) (a : PpuAddr) (v : Byte) : (b.write a v).ppu.ntRam =
    if 0x2000 ≤ a.toNat ∧ a.toNat < 0x3F00 then
      b.ppu.ntRam.set (nametableIndex b.cart.nametableMirroring a) v else b.ppu.ntRam := by
  unfold Video.write
  extract_lets b'
  split
  · rw [if_neg (by omega)]; rfl
  · split
    · rw [if_pos (by omega), ← (b.notify_chrFrame a).nametableMirroring]; rfl
    · rw [if_neg (by omega)]; rfl

theorem Video.write_palette (b : Video) (a : PpuAddr) (v : Byte) : (b.write a v).ppu.palette =
    if 0x3F00 ≤ a.toNat then b.ppu.palette.set (paletteIndex a) v else b.ppu.palette := by
  unfold Video.write
  extract_lets b'
  split
  · rw [if_neg (by omega)]; rfl
  · split
    · rw [if_neg (by omega)]; rfl
    · rw [if_pos (by omega)]; rfl

theorem sameVideoByte_chr_iff (c : Cart) (a : PpuAddr) {b : PpuAddr} (hb : b.toNat < 0x2000) :
    sameVideoByte c a b ↔ a.toNat < 0x2000 ∧ c.chrIndex a = c.chrIndex b := by
  unfold sameVideoByte
  split
  · next ha => exact and_congr_left' (iff_of_true hb ha)
  · split
    · exact iff_of_false (fun e => by omega) (fun e => by omega)
    · exact iff_of_false (fun e => by omega) (fun e => by omega)

theorem sameVideoByte_nametable_iff (c : Cart) (a : PpuAddr) {b : PpuAddr} (hb : 0x2000 ≤ b.toNat)
    (hb' : b.toNat < 0x3F00) : sameVideoByte c a b ↔ (0x2000 ≤ a.toNat ∧ a.toNat < 0x3F00) ∧
      nametableIndex c.nametableMirroring a = nametableIndex c.nametableMirroring b := by
  unfold sameVideoByte
  split
  · exact iff_of_false (fun e => by omega) (fun e => by omega)
  · next ha =>
    split
    · next ha' => rw [← and_assoc]; exact and_congr_left' (iff_of_true ⟨hb, hb'⟩ ⟨by omega, ha'⟩)
    · exact iff_of_false (fun e => by omega) (fun e => by omega)

theorem sameVideoByte_palette_iff (c : Cart) (a : PpuAddr) {b : PpuAddr} (hb : 0x3F00 ≤ b.toNat) :
    sameVideoByte c a b ↔ 0x3F00 ≤ a.toNat ∧ paletteIndex a = paletteIndex b := by
  unfold sameVideoByte
  split
  · exact iff_of_false (fun e => by omega) (fun e => by omega)
  · split
    · exact iff_of_false (fun e => by omega) (fun e => by omega)
    · exact and_congr_left' (iff_of_true hb (by omega))

/-- A write is seen at the addresses that name its byte, but for CHR-ROM, and at no other (R250, R211). -/
theorem Video.peek_write (b : Video) (a c : PpuAddr) (v : Byte) [Decidable (sameVideoByte b.cart a c)] :
    (b.write a v).peek c = if sameVideoByte b.cart a c then
      (if a.toNat < 0x2000 ∧ b.cart.chrIsRam = false then b.peek c else v) else b.peek c := by
  have hframe := b.write_chrFrame a v
  by_cases hc : c.toNat < 0x2000
  · simp only [sameVideoByte_chr_iff _ _ hc]
    rw [Video.peek_chr _ hc, Video.peek_chr _ hc, hframe.chrIndex, b.write_chr]
    by_cases ha : a.toNat < 0x2000
    · cases b.cart.chrIsRam
      · simp [ha]
      · simp [ha, Memory.get_set, eq_comm]
    · rw [if_neg fun e => ha e.1, if_neg fun e => ha e.1]
  · by_cases hc' : c.toNat < 0x3F00
    · simp only [sameVideoByte_nametable_iff _ _ (Nat.not_lt.1 hc) hc']
      rw [Video.peek_nametable _ (by omega) hc', Video.peek_nametable _ (by omega) hc', hframe.nametableMirroring,
        b.write_ntRam]
      by_cases ha : 0x2000 ≤ a.toNat ∧ a.toNat < 0x3F00
      · rw [if_pos ha, Memory.get_set, if_neg (show ¬ (a.toNat < 0x2000 ∧ b.cart.chrIsRam = false) by omega)]
        exact if_congr (eq_comm.trans (and_iff_right ha).symm) rfl rfl
      · rw [if_neg ha, if_neg fun e => ha e.1]
    · simp only [sameVideoByte_palette_iff _ _ (Nat.not_lt.1 hc')]
      rw [Video.peek_palette _ (by omega), Video.peek_palette _ (by omega), b.write_palette]
      by_cases ha : 0x3F00 ≤ a.toNat
      · rw [if_pos ha, Memory.get_set, if_neg (show ¬ (a.toNat < 0x2000 ∧ b.cart.chrIsRam = false) by omega)]
        exact if_congr (eq_comm.trans (and_iff_right ha).symm) rfl rfl
      · rw [if_neg ha, if_neg fun e => ha e.1]

/-- The bank that a mirroring shows at an address (R252), by the address's bit 11 or 10. -/
theorem nametableIndex_eq_iff (m : Mirroring) {a b : PpuAddr} (ha : 0x2000 ≤ a.toNat) (hb : 0x2000 ≤ b.toNat) :
    nametableIndex m a = nametableIndex m b ↔
      (match m with | .horizontal => a.toNat / 0x800 % 2 | .vertical => a.toNat / 0x400 % 2) =
        (match m with | .horizontal => b.toNat / 0x800 % 2 | .vertical => b.toNat / 0x400 % 2) ∧
      a.toNat % 0x400 = b.toNat % 0x400 := by
  unfold nametableIndex
  cases m <;> simp only <;> omega

/-- The palette's mirrored entries (R253) are those of each fourth address. -/
theorem paletteIndex_eq (a : PpuAddr) :
    paletteIndex a = if a.toNat % 4 = 0 then a.toNat % 16 else a.toNat % 32 := by
  unfold paletteIndex
  extract_lets i
  split <;> split <;> omega

/-- Settles O49: the maps of both memories, and a write seen where they agree. -/
theorem ppuMemoryMirrors : Obligations.PpuMemoryMirrors := by
  classical
  intro p a b v
  constructor
  · intro ha ha' hb hb' bank
    have hiff := (sameVideoByte_nametable_iff p.cart a hb hb').trans
      ((and_iff_right ⟨ha, ha'⟩).trans (nametableIndex_eq_iff p.cart.nametableMirroring ha hb))
    rw [p.peek_write, if_neg (c := _ ∧ _) (by omega)]
    exact if_congr hiff rfl rfl
  · intro ha hb entry
    have hiff := (sameVideoByte_palette_iff p.cart a hb).trans (and_iff_right ha)
    rw [paletteIndex_eq, paletteIndex_eq] at hiff
    rw [p.peek_write, if_neg (c := _ ∧ _) (by omega)]
    exact if_congr hiff rfl rfl

/-! ### STATUS, OAM and the write-only registers -/

/-- The byte a STATUS read returns (R787): three flags over the low bits of the buffer. -/
theorem statusByte_bits (v z o : Bool) (b : Byte) :
    let r : Byte := ((bitByte v <<< 7 ||| bitByte z <<< 6 ||| bitByte o <<< 5) &&& 0xE0) ||| (b &&& 0x1F)
    r.getLsbD 7 = v ∧ r.getLsbD 6 = z ∧ r.getLsbD 5 = o ∧ ∀ i < 5, r.getLsbD i = b.getLsbD i := by
  revert v z o b; decide

/-- Settles O50: each register's read and write, at the address modulo 8. -/
theorem statusAndOamPorts : Obligations.StatusAndOamPorts := by
  intro s a v h h'
  refine ⟨fun hr => ?_, fun hr => ?_, fun hr => ?_, fun hr => ?_, fun hr => ?_⟩
  · obtain ⟨h7, h6, h5, hlow⟩ :=
      statusByte_bits s.ppu.vblank s.ppu.spriteZeroHit s.ppu.overflow s.ppu.readBuffer
    rw [s.read_ppu h h', s.write_ppu h h', hr]
    exact ⟨h7, h6, h5, hlow, rfl, rfl⟩
  · rw [s.read_ppu h h', s.write_ppu h h', hr]
    exact ⟨rfl, _, rfl, fun j => Memory.get_set ..⟩
  · rw [s.read_ppu h h']
    simp only [List.mem_cons, List.not_mem_nil, or_false] at hr
    rcases hr with hr | hr | hr | hr | hr <;> rw [hr] <;> exact ⟨_, rfl⟩
  · rw [s.write_ppu h h', hr]; rfl
  · rw [s.write_ppu h h', hr]; rfl

/-! ### DATA -/

theorem Ppu.incrementV_eq (p : Ppu) :
    p.incrementV = { p with v := BitVec.ofNat 15 (p.v.toNat + (if p.ctrl.getLsbD 2 = true then 32 else 1)) } := by
  unfold Ppu.incrementV bit
  congr 1
  rw [BitVec.ofNat_add, BitVec.ofNat_toNat, BitVec.setWidth_eq]
  split <;> rfl

/-- A DATA read below the palette (R792): the buffer, refilled. -/
theorem Video.dataRead_buffered (b : Video) {a : PpuAddr} (ha : b.ppu.v.setWidth 14 = a) (h : a.toNat < 0x3F00) :
    b.dataRead.1 = b.ppu.readBuffer ∧ b.dataRead.2.ppu = { b.ppu with readBuffer := b.peek a }.incrementV := by
  subst ha
  rw [Video.dataRead, if_pos h, ← b.notify_peek (b.ppu.v.setWidth 14) (b.ppu.v.setWidth 14)]
  exact ⟨rfl, rfl⟩

/-- A DATA read of the palette (R792): the palette's byte, and the buffer refilled from underneath. -/
theorem Video.dataRead_palette (b : Video) {a : PpuAddr} (ha : b.ppu.v.setWidth 14 = a) (h : 0x3F00 ≤ a.toNat) :
    b.dataRead.1 = b.peek a ∧ b.dataRead.2.ppu = { b.ppu with readBuffer := b.peek (a - 0x1000) }.incrementV := by
  have hread : b.dataRead = ((b.notify a).peek a, { (b.notify a).notify (a - 0x1000) with
      ppu := { b.ppu with readBuffer := ((b.notify a).notify (a - 0x1000)).peek (a - 0x1000) }.incrementV }) := by
    subst ha
    exact if_neg (Nat.not_lt.2 h)
  rw [hread, Video.notify_peek, Video.notify_peek, Video.notify_peek]
  exact ⟨rfl, rfl⟩

/-- A DATA write (R791) does to the memories what the PPU-space write does, and steps `v`. -/
theorem Video.dataWrite_ppu (b : Video) (v : Byte) : (b.dataWrite v).ppu =
    { b.ppu with
      ntRam := (b.dataWrite v).ppu.ntRam
      palette := (b.dataWrite v).ppu.palette
      v := BitVec.ofNat 15 (b.ppu.v.toNat + (if b.ppu.ctrl.getLsbD 2 = true then 32 else 1)) } := by
  obtain ⟨-, -, hppu, -⟩ := b.write_spec (b.ppu.v.setWidth 14) v
  unfold Video.dataWrite
  extract_lets b'
  rw [Ppu.incrementV_eq, hppu]

/-- Settles O53: a read answers the buffer or the palette, a write is the PPU-space write at `v`. -/
theorem dataPortIsBuffered : Obligations.DataPortIsBuffered := by
  classical
  intro s a x h h' hr p low v' t
  have hlow : (s.ppu.v.setWidth 14 : PpuAddr) = low := BitVec.setWidth_eq_extractLsb' (by decide)
  have hread : s.read a = (p.dataRead.1, s.withVideo p.dataRead.2) := by rw [s.read_ppu h h', hr]; rfl
  have ht : t = s.withVideo (p.dataWrite x) := by rw [show t = s.write a x from rfl, s.write_ppu h h', hr]; rfl
  have hpeek (b : PpuAddr) : Video.peek ⟨t.ppu, t.cart, t.settings⟩ b = (p.write low x).peek b := by
    rw [ht, ← hlow]; rfl
  have hchr : t.cart.chr = (p.write low x).cart.chr := by rw [ht, ← hlow]; rfl
  have hnt : t.ppu.ntRam = (p.write low x).ppu.ntRam := by rw [ht, ← hlow]; rfl
  have hpal : t.ppu.palette = (p.write low x).ppu.palette := by rw [ht, ← hlow]; rfl
  have hcart : ChrFrame s.cart t.cart := by rw [ht]; exact p.write_chrFrame _ x
  rw [hread]
  refine ⟨fun hl => ?_, fun hl => ?_, ?_, fun b hb => ?_, fun b hb => ?_, fun j hj => ?_, fun j hj => ?_,
    fun j hj => ?_, hcart, ?_, ?_, ?_, ?_⟩
  · obtain ⟨hbyte, hppu⟩ := p.dataRead_buffered hlow hl
    exact ⟨hbyte, hppu.trans (Ppu.incrementV_eq _)⟩
  · obtain ⟨hbyte, hppu⟩ := p.dataRead_palette hlow hl
    exact ⟨hbyte, hppu.trans (Ppu.incrementV_eq _)⟩
  · rw [ht]; exact p.dataWrite_ppu x
  · rw [hpeek, p.peek_write, if_pos hb]
  · rw [hpeek, p.peek_write, if_neg hb]
  · rw [hchr, p.write_chr]
    split
    · next hc => exact Memory.get_set_ne _ (fun e => hj ⟨hc.1, hc.2, e⟩) _
    · rfl
  · rw [hnt, p.write_ntRam]
    split
    · next hc => exact Memory.get_set_ne _ (fun e => hj ⟨hc.1, hc.2, e⟩) _
    · rfl
  · rw [hpal, p.write_palette]
    split
    · next hc => exact Memory.get_set_ne _ (fun e => hj ⟨hc, e⟩) _
    · rfl
  · rw [ht]; rfl
  · rw [ht]; rfl
  · rw [ht]; rfl
  · rw [ht]; rfl

end Sys2Proof.Machine
end

section
/-! The statements about the APU's status port (spec 62 R955, R960) and the MMC3 (20 R285, R286, R298). -/

namespace Sys2Proof.Machine

/-! ### The APU's status port -/

theorem State.read_4015 (s : State) :
    s.read 0x4015 = (s.apu.statusByte, { s with apu := { s.apu with frameIrq := false } }) := rfl

theorem State.write_4015 (s : State) (v : Byte) : (s.write 0x4015 v).apu = s.apu.writeEnables v := by
  rw [s.write_apu (by decide) (by decide) (by decide) (by decide), show (0x4015 : Word).toNat - 0x4000 = 0x15 from rfl]
  rfl

/-- The bits of the byte that a $4015 read returns (R960), from its six flags. -/
theorem apuStatus_bits (p1 p2 tri noise dmc frame : Bool) :
    let r : Byte := bitByte p1 ||| (bitByte p2 <<< 1) ||| (bitByte tri <<< 2) ||| (bitByte noise <<< 3) |||
      (bitByte dmc <<< 4) ||| (bitByte frame <<< 6)
    r.getLsbD 0 = p1 ∧ r.getLsbD 1 = p2 ∧ r.getLsbD 2 = tri ∧ r.getLsbD 3 = noise ∧ r.getLsbD 4 = dmc ∧
      r.getLsbD 5 = false ∧ r.getLsbD 6 = frame ∧ r.getLsbD 7 = false := by
  revert p1 p2 tri noise dmc frame; decide

theorem sampleLength_toNat (n : Byte) : (n.setWidth 12 * 16 + 1 : BitVec 12).toNat = 16 * n.toNat + 1 := by
  revert n; decide

theorem sampleAddress_toNat (n : Byte) : (0xC000 + n.setWidth 16 * 64 : Word).toNat = 0xC000 + 64 * n.toNat := by
  revert n; decide

/-- The DMC's part of a $4015 write, by its cases (R955). -/
theorem Dmc.writeEnable_enabled (d : Dmc) (on : Bool) : (d.writeEnable on).enabled = on := by
  unfold Dmc.writeEnable
  extract_lets d1
  split
  · rfl
  · split <;> rfl

theorem Dmc.writeEnable_off (d : Dmc) : d.writeEnable false = { d with enabled := false, bytesLeft := 0 } := rfl

theorem Dmc.writeEnable_playing (d : Dmc) (h : d.bytesLeft ≠ 0) : d.writeEnable true = { d with enabled := true } :=
  if_neg h

theorem Dmc.writeEnable_stopped (d : Dmc) (h : d.bytesLeft = 0) :
    d.writeEnable true = { d with enabled := true }.restart := if_pos h

/-- Settles O59: the byte's bits, the lengths gated by the enables, and the DMC by its cases. -/
theorem apuStatusAndEnables : Obligations.ApuStatusAndEnables := by
  intro s v u w
  have hw : w = u.writeEnables v := s.write_4015 v
  have hdmc : w.dmc = u.dmc.writeEnable (v.getLsbD 4) := by rw [hw]; rfl
  refine ⟨fun i => ?_, by rw [s.read_4015], ?_, ?_, fun hv => ?_, fun hv hn => ?_, fun hv hn => ?_, ?_⟩
  · rw [s.read_4015]
    obtain ⟨h0, h1, h2, h3, h4, h5, h6, h7⟩ := apuStatus_bits (u.p1.length != 0) (u.p2.length != 0)
      (u.tri.length != 0) (u.noise.length != 0) (u.dmc.bytesLeft != 0) u.frameIrq
    match i with
    | 0 => exact h0
    | 1 => exact h1
    | 2 => exact h2
    | 3 => exact h3
    | 4 => exact h4
    | 5 => exact h5
    | 6 => exact h6
    | 7 => exact h7
    | i + 8 => exact BitVec.getLsbD_of_ge _ _ (by omega)
  · rw [hdmc, hw]
    exact ⟨rfl, rfl, rfl, rfl, Dmc.writeEnable_enabled _ _⟩
  · rw [hw]
    exact ⟨rfl, rfl, rfl, rfl⟩
  · rw [hdmc, hv, Dmc.writeEnable_off]
  · rw [hdmc, hv, Dmc.writeEnable_playing _ hn]
    exact ⟨rfl, rfl⟩
  · rw [hdmc, hv, Dmc.writeEnable_stopped _ hn]
    exact ⟨sampleLength_toNat _, sampleAddress_toNat _⟩
  · rw [hw]; rfl

/-! ### The MMC3's banks -/

/-- The index of a byte in the bank that the window at its address shows (R286). -/
theorem Cart.prgIndex_window {c : Cart} (hm : c.mapperId = 4) {a : Word} {window bank : Nat}
    (hw : (a.toNat - 0x8000) / 0x2000 = window) (hb : c.mmc3.prgBank (2 * c.prgBanks) window = bank) :
    c.prgIndex a = bank * 8192 + (a.toNat - 0x8000) % 0x2000 := by
  have hn : c.prgSize / 8192 = 2 * c.prgBanks := by unfold Cart.prgSize; omega
  rw [Cart.prgIndex, if_pos ((Cart.isMmc3_iff c).2 hm), hn, hw, hb]

theorem Mmc3.prgBank_last (m : Mmc3) (n8 : Nat) : m.prgBank n8 3 = n8 - 1 := rfl

/-! ### The MMC3's interrupt counter -/

/-- A clock of the counter (R298). -/
theorem Mmc3.clockIrqCounter_spec (m : Mmc3) :
    m.clockIrqCounter.irqCounter =
      (if m.irqCounter = 0 ∨ m.irqReload = true then m.irqLatch else m.irqCounter - 1) ∧
    m.clockIrqCounter.irqReload = false ∧
    (m.clockIrqCounter.irqPending = true ↔
      m.irqPending = true ∨ (m.clockIrqCounter.irqCounter = 0 ∧ m.irqEnable = true)) := by
  have hreload : (m.irqCounter == 0 || m.irqReload) = true ↔ m.irqCounter = 0 ∨ m.irqReload = true := by
    rw [Bool.or_eq_true, beq_iff_eq]
  refine ⟨if_congr hreload rfl rfl, ?_, ?_⟩
  · unfold Mmc3.clockIrqCounter
    cases hr : m.irqReload <;> simp
  · simp [Mmc3.clockIrqCounter]

/-- The register that an address from $E000 on selects (R285), by its parity. -/
theorem and_E001_toNat {a : Word} (h : 0xE000 ≤ a.toNat) : (a &&& 0xE001).toNat = 0xE000 + a.toNat % 2 := by
  have ha := a.isLt
  have hlow : (a.toNat &&& 0xE001) % 2 = a.toNat % 2 := by
    rw [show 2 = 2 ^ 1 from rfl, Nat.and_mod_two_pow]
    exact Nat.and_one_is_mod _ |>.trans (Nat.mod_mod ..)
  have hmid : (a.toNat &&& 0xE001) / 2 ^ 1 % 2 ^ 12 = 0 := by
    rw [Nat.and_div_two_pow, Nat.and_mod_two_pow]
    exact Nat.and_zero _
  have hhigh : (a.toNat &&& 0xE001) / 2 ^ 13 = 7 := by
    rw [Nat.and_div_two_pow, show a.toNat / 2 ^ 13 = 7 by omega]; rfl
  rw [BitVec.toNat_and]
  change a.toNat &&& 0xE001 = _
  omega

theorem Mmc3.write_E000 (m : Mmc3) {a : Word} (h : 0xE000 ≤ a.toNat) (he : a.toNat % 2 = 0) (v : Byte) :
    m.write a v = { m with irqEnable := false, irqPending := false } := by
  rw [Mmc3.write, and_E001_toNat h, he]; rfl

theorem Mmc3.write_E001 (m : Mmc3) {a : Word} (h : 0xE000 ≤ a.toNat) (ho : a.toNat % 2 = 1) (v : Byte) :
    m.write a v = { m with irqEnable := true } := by
  rw [Mmc3.write, and_E001_toNat h, ho]; rfl

theorem Cart.cpuWrite_mmc3 {c : Cart} (hm : c.mapperId = 4) {a : Word} (h : 0x8000 ≤ a.toNat) (v : Byte) :
    c.cpuWrite a v = { c with mmc3 := c.mmc3.write a v } := by
  rw [Cart.cpuWrite, if_neg (by omega), if_neg (by omega), if_pos ((Cart.isMmc3_iff c).2 hm)]

/-- Settles O60: the fixed windows, a clock of the counter, and the two registers from $E000 on. -/
theorem mmc3BanksAndIrq : Obligations.Mmc3BanksAndIrq := by
  intro c a v hm hbanks
  have ha := a.isLt
  refine ⟨fun h => ?_, fun hmode h h' => ?_, fun hmode h h' => ?_, c.mmc3.clockIrqCounter_spec, fun h => ?_, ?_⟩
  · have hindex : c.prgIndex a = c.prgBanks * 16384 - 0x2000 + (a.toNat - 0xE000) := by
      rw [Cart.prgIndex_window hm (by omega) (Mmc3.prgBank_last _ _)]; omega
    rw [c.cpuRead_rom (by omega), hindex]
  · have hbank : c.mmc3.prgBank (2 * c.prgBanks) 2 = 2 * c.prgBanks - 2 := by
      simp only [Mmc3.prgBank, hmode]; rfl
    have hindex : c.prgIndex a = c.prgBanks * 16384 - 0x4000 + (a.toNat - 0xC000) := by
      rw [Cart.prgIndex_window hm (by omega) hbank]; omega
    rw [c.cpuRead_rom (by omega), hindex]
  · have hbank : c.mmc3.prgBank (2 * c.prgBanks) 0 = 2 * c.prgBanks - 2 := by
      simp only [Mmc3.prgBank, hmode]; rfl
    have hindex : c.prgIndex a = c.prgBanks * 16384 - 0x4000 + (a.toNat - 0x8000) := by
      rw [Cart.prgIndex_window hm (by omega) hbank]; omega
    rw [c.cpuRead_rom (by omega), hindex]
  · rw [Cart.cpuWrite_mmc3 hm (by omega)]
    rcases Nat.mod_two_eq_zero_or_one a.toNat with he | ho
    · rw [Mmc3.write_E000 _ h he, if_pos he, he]
      exact ⟨Bool.and_false _, rfl⟩
    · rw [Mmc3.write_E001 _ h ho, if_neg (by omega), ho]
      exact ⟨rfl, rfl⟩
  · exact (c.cpuWrite_spec a v).1.prgRom

end Sys2Proof.Machine
end

section
/-! The statement about reset (spec 70 R1000, R1001, R1003). -/

namespace Sys2Proof.Machine

theorem Cart.mapperReset_eq (c : Cart) :
    c.mapperReset = if c.mapperId = 4 then { c with mmc3 := { mirroring := c.mirroring } } else c :=
  if_congr c.isMmc3_iff rfl rfl

/-- The last 8 KiB window shows the last bank whatever the MMC3's registers hold (R286), and so after the reset of the
mapper too. -/
theorem Cart.mapperReset_prgIndex (c : Cart) {a : Word} (h : 0xE000 ≤ a.toNat) :
    c.mapperReset.prgIndex a = c.prgIndex a := by
  have ha := a.isLt
  have hlast (d : Cart) (hd : d.mapperId = 4) :=
    Cart.prgIndex_window hd (a := a) (window := 3) (by omega) (Mmc3.prgBank_last _ _)
  rw [Cart.mapperReset_eq]
  split
  · next hm =>
    rw [hlast c hm, hlast { c with mmc3 := { mirroring := c.mirroring } } hm]
  · rfl

/-- The vectors are read from the same bytes before and after the re-initialisation. -/
theorem State.initialised_peek (s : State) {a : Word} (h : 0xE000 ≤ a.toNat) : s.initialised.peek a = s.peek a := by
  have hrom : s.initialised.cart.prgRom = s.cart.prgRom := by
    rw [State.initialised, Cart.mapperReset_eq]
    split <;> rfl
  have hindex : s.initialised.cart.prgIndex a = s.cart.prgIndex a := s.cart.mapperReset_prgIndex h
  simp only [State.peek, show ¬ a.toNat < 0x2000 by omega, show ¬ a.toNat < 0x4020 by omega, if_false,
    Cart.cpuRead_rom _ (show 0x8000 ≤ a.toNat by omega), Option.getD_some, hrom, hindex]

/-- A row of pixels put from the left edge on. -/
theorem Framebuffer.get_foldl_set (p : BitVec 32) (f : Framebuffer) (n y x : Nat) :
    Framebuffer.get ((List.range n).foldl (fun g i => Framebuffer.set g 0 i p) f) y x =
      if y = 0 ∧ x < n then p else f.get y x := by
  induction n with
  | zero => rw [if_neg (fun h => Nat.not_lt_zero _ h.2)]; rfl
  | succ n ih =>
    rw [List.range_succ, List.foldl_append, List.foldl_cons, List.foldl_nil]
    by_cases h : y = 0 ∧ x = n
    · rw [h.1, h.2, Framebuffer.get_set_self, if_pos ⟨rfl, Nat.lt_succ_self n⟩]
    · rw [Framebuffer.get_set_ne _ (fun e => h (Prod.mk.inj e)), ih]
      exact if_congr (by omega) rfl rfl

/-- Settles O44: what a reset leaves, part by part, with the vectors read before it and the pixels of its dots. -/
theorem resetSetsTheMachine : Obligations.ResetSetsTheMachine := by
  intro s
  refine ⟨fun ha => by rw [State.hostReset, ha, if_neg Bool.false_ne_true],
    fun ha => ⟨s.resetMachine, if_pos ha, ?_, ?_, ?_, ?_, fun y x => ?_, ?_, fun hm => ?_, fun hm => ?_,
      s.resetMachine_settings⟩⟩
  · rw [s.resetMachine_cpu, s.initialised_peek (by decide), s.initialised_peek (by decide)]; rfl
  · rw [State.p, s.resetMachine_cpu]
    exact (by decide : Flags.toByte { i := true } = 0x24)
  · rw [s.resetMachine_bus]; rfl
  · rw [s.resetMachine_ppu, Ppu.reset]
  · rw [s.resetMachine_framebuffer, resetPixels, Framebuffer.get_foldl_set, Ppu.backdrop,
      BitVec.setWidth_eq_extractLsb' (by decide)]
  · rw [s.resetMachine_eq]; rfl
  · rw [s.resetMachine_cart, Cart.mapperReset_eq, if_pos hm]
  · rw [s.resetMachine_cart, Cart.mapperReset_eq, if_neg hm]

end Sys2Proof.Machine
end

section
/-! The statement about sprite evaluation (spec 61 R821). -/

namespace Sys2Proof.Machine

/-! ### A memory laid out from bytes -/

theorem Memory.get_cons (j : Nat) (w : Byte) (m : Memory) (a : Nat) :
    Memory.get ((j, w) :: m) a = if a = j then w else m.get a := by
  rw [Memory.get, assocGet]
  split <;> rfl

/-- An index that no entry has reads as unlisted. -/
theorem Memory.get_of_forall_ne {m : Memory} {a : Nat} (h : ∀ c ∈ m, c.1 ≠ a) : m.get a = Memory.unlisted := by
  induction m with
  | nil => rfl
  | cons c m ih =>
    rw [Memory.get_cons, if_neg (h c List.mem_cons_self).symm, ih fun d hd => h d (List.mem_cons_of_mem _ hd)]

theorem Memory.get_ofBytes (bs : List Byte) (start n : Nat) :
    (Memory.ofBytes start bs).get (start + n) = (bs[n]?).getD Memory.unlisted := by
  induction bs generalizing start n with
  | nil => rfl
  | cons b bs ih =>
    have hbefore : (Memory.ofBytes (start + 1) bs).get start = Memory.unlisted :=
      Memory.get_of_forall_ne fun c hc => by have := (Memory.le_of_mem_ofBytes hc).1; omega
    rw [Memory.ofBytes]
    cases n with
    | zero =>
      split
      · next h => exact hbefore.trans h.symm
      · rw [Memory.get_cons, if_pos (Nat.add_zero start)]; rfl
    | succ n =>
      rw [show start + (n + 1) = start + 1 + n by omega]
      split
      · exact ih ..
      · rw [Memory.get_cons, if_neg (by omega)]; exact ih ..

/-! ### The entries found, the slots and secondary OAM -/

/-- The four bytes of an OAM entry (R137). -/
def Ppu.oamEntry (p : Ppu) (i : Nat) : List Byte := [p.oamByte i 0, p.oamByte i 1, p.oamByte i 2, p.oamByte i 3]

theorem Ppu.oamEntry_getElem? (p : Ppu) (i : Nat) {j : Nat} (h : j < 4) :
    (p.oamEntry i)[j]? = some (p.oam.get (4 * i + j)) := by
  match j, h with
  | 0, _ | 1, _ | 2, _ | 3, _ => rfl

/-- The entry at place `k` stands at the bytes from `4 * k` on. -/
theorem Ppu.oamEntries_getElem? (p : Ppu) {is : List Nat} {k i j : Nat} (hj : j < 4) (h : is[k]? = some i) :
    (is.flatMap p.oamEntry)[4 * k + j]? = some (p.oam.get (4 * i + j)) := by
  induction is generalizing k with
  | nil => simp at h
  | cons x xs ih =>
    have hlength : (p.oamEntry x).length = 4 := rfl
    rw [List.flatMap_cons]
    cases k with
    | zero =>
      obtain rfl := Option.some.inj h
      rw [List.getElem?_append_left (by omega), Nat.mul_zero, Nat.zero_add, p.oamEntry_getElem? _ hj]
    | succ k =>
      rw [List.getElem?_append_right (by omega), hlength, show 4 * (k + 1) + j - 4 = 4 * k + j by omega]
      exact ih h

theorem Ppu.oamEntries_length (p : Ppu) (is : List Nat) : (is.flatMap p.oamEntry).length = 4 * is.length := by
  rw [List.length_flatMap, show (fun i => (p.oamEntry i).length) = fun _ => 4 from rfl, List.map_const', List.sum_replicate,
    smul_eq_mul, Nat.mul_comm]

theorem Ppu.secondaryOam_eq (p : Ppu) (is : List Nat) : p.secondaryOam is =
    is.flatMap p.oamEntry ++ List.replicate (32 - (is.flatMap p.oamEntry).length) 0xFF := rfl

theorem Ppu.secondaryOam_getElem?_selected (p : Ppu) {is : List Nat} {k i j : Nat} (hj : j < 4) (h : is[k]? = some i) :
    (p.secondaryOam is)[4 * k + j]? = some (p.oam.get (4 * i + j)) := by
  have hentry := p.oamEntries_getElem? hj h
  rw [p.secondaryOam_eq, List.getElem?_append_left (List.getElem?_eq_some_iff.1 hentry).1, hentry]

theorem Ppu.secondaryOam_getElem?_rest (p : Ppu) {is : List Nat} {j : Nat} (h : 4 * is.length ≤ j) (hj : j < 32) :
    (p.secondaryOam is)[j]? = some 0xFF := by
  have hlength := p.oamEntries_length is
  rw [p.secondaryOam_eq, List.getElem?_append_right (by omega), List.getElem?_replicate, if_pos (by omega)]

/-- The slot at place `k` is filled from the entry at place `k`. -/
theorem Ppu.fillSlots_getElem? (p : Ppu) (line : Nat) {is : List Nat} {ss : List SpriteSlot} {k i : Nat}
    (h : is[k]? = some i) : (p.fillSlots line is ss)[k]? = (ss[k]?).map (p.evaluatedSlot line i) := by
  induction is generalizing ss k with
  | nil => simp at h
  | cons x xs ih =>
    cases ss with
    | nil => rfl
    | cons s ss =>
      cases k with
      | zero => obtain rfl := Option.some.inj h; rfl
      | succ k => exact ih h

/-- The entries found are those that R821 names. -/
theorem Ppu.spriteCandidates_eq (p : Ppu) (line : Nat) : p.spriteCandidates line =
    (List.range 64).filter fun i => decide ((p.oam.get (4 * i)).toNat ≤ line ∧
      line - (p.oam.get (4 * i)).toNat < if p.ctrl.getLsbD 5 = true then 16 else 8) := by
  refine List.filter_congr fun i _ => decide_eq_decide.2 ?_
  show (p.oam.get (4 * i)).toNat ≤ line ∧ line < (p.oam.get (4 * i)).toNat +
    (if p.ctrl.getLsbD 5 = true then 16 else 8) ↔ _
  omega

theorem Ppu.lt_of_mem_spriteCandidates (p : Ppu) {line i : Nat} (h : i ∈ p.spriteCandidates line) : i < 64 :=
  List.mem_range.1 (List.mem_of_mem_filter h)

/-- Settles O58: the first eight entries found are at the same places in the slots and in secondary OAM. -/
theorem spriteEvaluation : Obligations.SpriteEvaluation := by
  intro p line hslots h found q
  have hfound : p.spriteCandidates line = found := p.spriteCandidates_eq line
  have hselected : ((p.spriteCandidates line).take 8).length = min 8 found.length := by rw [hfound, List.length_take]
  have htake {k i : Nat} (hk : k < 8) (hi : found[k]? = some i) : ((p.spriteCandidates line).take 8)[k]? = some i := by
    rw [hfound, List.getElem?_take_of_lt hk, hi]
  have hoam2 (n : Nat) : q.oam2.get n =
      ((p.secondaryOam ((p.spriteCandidates line).take 8))[n]?).getD Memory.unlisted := by
    rw [← Memory.get_ofBytes _ 0, Nat.zero_add]; rfl
  refine ⟨hselected, ?_, fun k i hk hi => ?_, fun k i j hk hj hi => ?_, fun j hj hj' => ?_, rfl⟩
  · rw [← hfound]; rfl
  · have hi64 : i < 64 := p.lt_of_mem_spriteCandidates (hfound ▸ List.mem_of_getElem? hi)
    obtain ⟨s, hs⟩ : ∃ s, p.slots[k]? = some s := ⟨_, List.getElem?_eq_getElem (by omega)⟩
    have hslot : q.slots[k]? = some (p.evaluatedSlot line i s) := by
      rw [← Option.map_some, ← hs]
      exact p.fillSlots_getElem? line (htake hk hi)
    exact ⟨_, hslot, (BitVec.toNat_ofNat i 6).trans (Nat.mod_eq_of_lt hi64), rfl, rfl⟩
  · rw [hoam2, p.secondaryOam_getElem?_selected hj (htake hk hi), Option.getD_some]
  · rw [hoam2, p.secondaryOam_getElem?_rest (by omega) hj', Option.getD_some]

end Sys2Proof.Machine
end

section
/-! The statement about the frame (spec 61 R751, R865). -/

namespace Sys2Proof.Machine

/-! ### The place after a dot -/

/-- The dot that is skipped, and the frame that ends with it (R865). -/
theorem Video.tick_place_skip {b : Video} (h : b.ppu.scanline = 261 ∧ b.ppu.dot = 339 ∧ b.ppu.oddFrame = true ∧
    b.ppu.renderingEnabled = true) : b.tick.ppu.scanline = 0 ∧ b.tick.ppu.dot = 0 ∧
    b.tick.ppu.frame = b.ppu.frame + 1 ∧ b.tick.ppu.oddFrame = !b.ppu.oddFrame ∧ b.tick.ppu.frameReady = true := by
  obtain ⟨hdot, hline, hframe, hodd, hready⟩ := b.tick_place
  rw [if_pos h] at hdot hline hframe hodd hready
  rw [h.1] at hline hframe hodd hready
  exact ⟨hline, hdot, hframe, hodd, hready⟩

/-- Every other dot (R865): the next of its line, of the next line, or of the next frame. -/
theorem Video.tick_place_next {b : Video} (h : ¬ (b.ppu.scanline = 261 ∧ b.ppu.dot = 339 ∧ b.ppu.oddFrame = true ∧
    b.ppu.renderingEnabled = true)) (hi : b.ppu.Inv) : b.tick.ppu.position = b.ppu.position + 1 ∧
    (b.tick.ppu.frame = b.ppu.frame ∧ b.tick.ppu.oddFrame = b.ppu.oddFrame ∧
        b.tick.ppu.frameReady = b.ppu.frameReady ∨
      b.tick.ppu.frame = b.ppu.frame + 1 ∧ b.tick.ppu.oddFrame = (!b.ppu.oddFrame) ∧
        b.tick.ppu.frameReady = true) := by
  obtain ⟨hdot, hline, hframe, hodd, hready⟩ := b.tick_place
  rw [if_neg h] at hdot hline hframe hodd hready
  have hd := hi.dot
  have hl := hi.scanline
  unfold Ppu.position
  by_cases hlast : 340 < b.ppu.dot + 1 ∧ 261 < b.ppu.scanline + 1
  · rw [if_neg (by omega)] at hdot
    rw [if_neg (by omega), if_neg (by omega)] at hline
    rw [if_pos hlast] at hframe hodd hready
    exact ⟨by omega, .inr ⟨hframe, hodd, hready⟩⟩
  · rw [if_neg hlast] at hframe hodd hready
    refine ⟨?_, .inl ⟨hframe, hodd, hready⟩⟩
    by_cases hnext : b.ppu.dot + 1 ≤ 340
    · rw [if_pos hnext] at hdot hline
      omega
    · rw [if_neg hnext] at hdot hline
      rw [if_pos (by omega)] at hline
      omega

/-! ### The idle lines -/

theorem Ppu.advance_framebuffer (p : Ppu) : p.advance.framebuffer = p.framebuffer ∧ p.advance.oam2 = p.oam2 := by
  unfold Ppu.advance
  extract_lets skip dot
  split
  · exact ⟨rfl, rfl⟩
  · split <;> exact ⟨rfl, rfl⟩

theorem Ppu.updateStatus_framebuffer (p : Ppu) :
    p.updateStatus.framebuffer = p.framebuffer ∧ p.updateStatus.oam2 = p.oam2 := by
  unfold Ppu.updateStatus
  split
  · exact ⟨rfl, rfl⟩
  · split <;> exact ⟨rfl, rfl⟩

/-- On the lines 240 to 260 a dot composes no pixel and fetches nothing (R750). -/
theorem Video.dotWork_idle {b : Video} (h : 240 ≤ b.ppu.scanline) (h' : b.ppu.scanline ≤ 260) :
    b.dotWork = { b with ppu := b.ppu.updateStatus } := by
  have hpixel : b.ppu.pixelStep = b.ppu := if_neg fun e => by omega
  have hrender : b.renderStep = b := if_neg fun e => by omega
  rw [Video.dotWork, hpixel, hrender]

theorem Video.tick_idle {b : Video} (h : 240 ≤ b.ppu.scanline) (h' : b.ppu.scanline ≤ 260) :
    b.tick.cart = b.cart ∧ b.tick.ppu.framebuffer = b.ppu.framebuffer ∧ b.tick.ppu.oam2 = b.ppu.oam2 := by
  obtain ⟨hpixels, hoam2⟩ := b.ppu.updateStatus.advance_framebuffer
  obtain ⟨hpixels', hoam2'⟩ := b.ppu.updateStatus_framebuffer
  rw [b.tick_eq, Video.dotWork_idle h h']
  exact ⟨rfl, hpixels.trans hpixels', hoam2.trans hoam2'⟩

/-- Settles O57: the place after the skipped dot and after every other, and the dots that do nothing else. -/
theorem frameGeometry : Obligations.FrameGeometry := by
  intro s hi p q skip
  let b : Video := ⟨s.ppu, s.cart, s.settings⟩
  have hinv : q.Inv := b.tick_inv hi
  have hkept : PpuKept p q := b.tick_kept
  have hends : q.frame = p.frame ∧ q.oddFrame = p.oddFrame ∧ q.frameReady = p.frameReady ∨
      q.frame = p.frame + 1 ∧ q.oddFrame = (!p.oddFrame) ∧ q.frameReady = true := by
    by_cases hs : skip
    · exact .inr (Video.tick_place_skip (b := b) hs).2.2
    · exact (Video.tick_place_next (b := b) hs hi).2
  refine ⟨⟨hinv.scanline, hinv.dot⟩, fun hs => ?_, fun hs => (Video.tick_place_next (b := b) hs hi).1,
    fun hne => ?_, fun he => ?_, fun h h' => ?_⟩
  · obtain ⟨hline, hdot, hframe, -⟩ := Video.tick_place_skip (b := b) hs
    exact ⟨hline, hdot, hframe⟩
  · obtain ⟨hframe, hodd, hready⟩ := hends.resolve_left fun e => hne e.1
    exact ⟨hframe, hready, hodd⟩
  · obtain ⟨-, hodd, hready⟩ := hends.resolve_right fun e => by omega
    exact ⟨hready, hodd⟩
  · obtain ⟨hcart, hpixels, hoam2⟩ := Video.tick_idle (b := b) h h'
    exact ⟨hcart, hpixels, hkept.ntRam, hkept.palette, hkept.oam, hoam2⟩

end Sys2Proof.Machine
end

section
/-! The statement about OAM-DMA (spec 20 R230-R232, R236). -/

namespace Sys2Proof.Machine

/-- `n` writes through the OAM data register (R789) of the bytes that `f` gives from index `i` on. -/
def Ppu.oamFill (f : Byte → Byte) : Nat → Byte → Ppu → Ppu
  | 0, _, p => p
  | n + 1, i, p => Ppu.oamFill f n (i + 1) (p.oamDataWrite (f i))

/-- Up to 256 of them fill OAM from the OAM address on, wrapping, and change nothing else but that address. -/
theorem Ppu.oamFill_eq (f : Byte → Byte) {n : Nat} (hn : n ≤ 256) (i : Byte) (p : Ppu) :
    ∃ m : Memory, Ppu.oamFill f n i p = { p with oam := m, oamAddr := p.oamAddr + BitVec.ofNat 8 n } ∧
      ∀ j : Byte, m.get j.toNat =
        if (j - p.oamAddr).toNat < n then f (i + (j - p.oamAddr)) else p.oam.get j.toNat := by
  induction n generalizing i p with
  | zero => exact ⟨p.oam, by rw [Ppu.oamFill, BitVec.add_zero], fun _ => rfl⟩
  | succ n ih =>
    obtain ⟨m, hfill, hget⟩ := ih (by omega) (i + 1) (p.oamDataWrite (f i))
    refine ⟨m, ?_, fun j => ?_⟩
    · have haddr : p.oamAddr + 1 + BitVec.ofNat 8 n = p.oamAddr + BitVec.ofNat 8 (n + 1) := by
        rw [BitVec.ofNat_add, BitVec.add_assoc, BitVec.add_comm (1 : Byte)]; rfl
      rw [Ppu.oamFill, hfill, ← haddr]; rfl
    · have hwrite : (p.oamDataWrite (f i)).oam.get j.toNat =
          if j.toNat = p.oamAddr.toNat then f i else p.oam.get j.toNat := Memory.get_set ..
      have hnext : (p.oamDataWrite (f i)).oamAddr = p.oamAddr + 1 := rfl
      rw [hget, hwrite, hnext]
      by_cases hj : j = p.oamAddr
      · rw [hj, if_neg (by bv_omega), if_pos rfl, BitVec.sub_self, if_pos (by simp), BitVec.add_zero]
      · have hindex : i + 1 + (j - (p.oamAddr + 1)) = i + (j - p.oamAddr) := by bv_omega
        rw [hindex, if_neg (mt BitVec.eq_of_toNat_eq hj)]
        exact if_congr (by bv_omega) rfl rfl

/-- The page lies in plain memory. -/
theorem plain_of_page {page : Byte} (h : page.toNat < 0x20 ∨ 0x60 ≤ page.toNat) (i : Byte) :
    (wordOf i page).toNat < 0x2000 ∨ 0x6000 ≤ (wordOf i page).toNat := by
  have hi := i.isLt
  rw [wordOf_toNat]
  omega

/-- The copy from a page of plain memory only writes OAM (R232). -/
theorem State.dmaCopy_plain (n : Nat) (i : Byte) {s : State}
    (h : s.bus.dmaPage.toNat < 0x20 ∨ 0x60 ≤ s.bus.dmaPage.toNat) : State.dmaCopy n i s =
      { s with ppu := Ppu.oamFill (fun i => s.peek (wordOf i s.bus.dmaPage)) n i s.ppu } := by
  induction n generalizing i s with
  | zero => rfl
  | succ n ih =>
    have hbyte : s.dmaByte i = { s with ppu := s.ppu.oamDataWrite (s.peek (wordOf i s.bus.dmaPage)) } := by
      rw [State.dmaByte, s.read_plain (plain_of_page h i)]
    rw [State.dmaCopy, hbyte]
    exact ih (i + 1) (s := { s with ppu := _ }) h

theorem dmaStallWith_eq (oddExtra : Bool) (cycles : Nat) :
    dmaStallWith oddExtra cycles = 513 + (if oddExtra = true then cycles % 2 else 0) := by
  unfold dmaStallWith
  cases oddExtra
  · rfl
  · rcases Nat.mod_two_eq_zero_or_one cycles with h | h <;> rw [h] <;> rfl

/-- Settles O55: the copy fills OAM from the page, and the stall's ticks leave it and the memories alone. -/
theorem oamDmaCopiesAPage : Obligations.OamDmaCopiesAPage := by
  intro s
  refine ⟨fun v => s.write_dma rfl v, fun hpage => ?_⟩
  obtain ⟨m, hfill, hget⟩ := Ppu.oamFill_eq (fun i => s.peek (wordOf i s.bus.dmaPage)) (Nat.le_refl 256) 0 s.ppu
  let s1 : State := { s with bus := { s.bus with dmaPending := false } }
  let s2 : State := { s1 with ppu := { s.ppu with oam := m, oamAddr := s.ppu.oamAddr + BitVec.ofNat 8 256 } }
  let stall := dmaStallWith s.settings.dmaOddExtra s.cpu.cycles
  have hcopy : State.dmaCopy 256 0 s1 = s2 := by
    rw [State.dmaCopy_plain 256 0 (s := s1) hpage]
    exact congrArg (fun p => { s1 with ppu := p }) hfill
  have hdma : s.oamDma = (s2.addCycles stall).tick stall := by
    rw [State.oamDma, hcopy]
  have ht := (s2.addCycles stall).tick_spec stall
  rw [hdma]
  generalize (s2.addCycles stall).tick stall = t at ht ⊢
  refine ⟨fun i => ?_, ?_, by rw [ht.bus]; rfl, ?_, by rw [ht.bus]; rfl, ht.kept.ntRam, ht.kept.palette,
    ht.cart.prgRam, ht.cart.prgRom, ht.cart.chr⟩
  · have hsub : s.ppu.oamAddr + i - s.ppu.oamAddr = i := by bv_omega
    rw [ht.kept.oam]
    refine (hget _).trans ?_
    rw [hsub, if_pos i.isLt, zero_add]
  · rw [ht.kept.oamAddr]
    exact BitVec.add_zero _
  · rw [ht.cpu]
    exact (congrArg (s.cpu.cycles + ·) (dmaStallWith_eq ..)).trans (Nat.add_assoc ..).symm

end Sys2Proof.Machine
end
